-- ==== Sys2Proof/Word.lean ====
section
/-! DEFINITION. The words of the block: bytes, timer values, the frame data buffer. -/

namespace Sys2Proof

/-- One byte of a frame, and the width of a stored signal value (00_scope.md R3, 10_state.md R11). -/
abbrev Byte := BitVec 8

/-- A timer value or a duration: `TIMER_BITS` = 32 bits, unsigned (00_scope.md R5). -/
abbrev Time := BitVec 32

/-- The frame data buffer `buf[0]` to `buf[7]` (20_memory.md R40). -/
structure Buffer where
  b0 : Byte
  b1 : Byte
  b2 : Byte
  b3 : Byte
  b4 : Byte
  b5 : Byte
  b6 : Byte
  b7 : Byte
  deriving DecidableEq, Repr

/-- `buf[i]`, for `i` from 0 to 7 (R40); 0 for an index the buffer does not have. -/
def Buffer.byte (b : Buffer) (i : Nat) : Byte :=
  match i with
  | 0 => b.b0
  | 1 => b.b1
  | 2 => b.b2
  | 3 => b.b3
  | 4 => b.b4
  | 5 => b.b5
  | 6 => b.b6
  | 7 => b.b7
  | _ => 0

end Sys2Proof
end

