-- ==== Sys2Proof/Syntax.lean ====
section
/-! DEFINITION. Frames, records and the block's operations: one constructor of `Instr` for each row of
the spec's operation table. -/

namespace Sys2Proof

/-- The four monitored signals (10_state.md section 2). -/
inductive Signal where
  | lamp
  | lock
  | park
  | soc
  deriving DecidableEq, Repr

/-- What CLASSIFY answers (41_frame_decode.md R83). -/
inductive FrameKind where
  | lamp
  | lock
  | park
  | soc
  | none
  deriving DecidableEq, Repr

/-- An inbound frame (30_encoding.md R55). All eight data bytes are present whatever `length` says, and
the block never reads `arrivalTime`. -/
structure Frame where
  identifier : BitVec 32
  length : BitVec 4
  data : Buffer
  arrivalTime : Time
  deriving DecidableEq, Repr

/-- The header word `H = length ∥ identifier` (30_encoding.md R56). -/
def headerWord (identifier : BitVec 32) (length : BitVec 4) : BitVec 36 :=
  length ++ identifier

/-- A decoder's output for the signal `k` (30_encoding.md R65). The signal is part of the type: an
APPLY operation takes only the record of its own decoder. -/
structure Record (k : Signal) where
  valid : Bool
  value : Byte
  deriving DecidableEq, Repr

abbrev LampRecord := Record .lamp
abbrev LockRecord := Record .lock
abbrev ParkRecord := Record .park
abbrev SocRecord := Record .soc

/-- The operations, in the order of opcode_table.json. -/
inductive Instr where
  /-- DECODE_LAMP (R85). -/
  | decodeLamp (f : Frame)
  /-- DECODE_LOCK (R86). -/
  | decodeLock (f : Frame)
  /-- DECODE_PARK (R87). -/
  | decodePark (f : Frame)
  /-- DECODE_SOC (R88). -/
  | decodeSoc (f : Frame)
  /-- FRAME_IGNORED: a frame whose header selects no decoder (R66). -/
  | frameIgnored (f : Frame)
  /-- EXTRACT (R75, R77). -/
  | extract (buf : Buffer) (position width : Byte)
  /-- CLASSIFY (R83). -/
  | classify (identifier : BitVec 32) (length : BitVec 4)
  /-- DECODE_FRAME (R91). -/
  | decodeFrame (f : Frame)
  /-- APPLY_LAMP (R94). -/
  | applyLamp (r : LampRecord) (now : Time)
  /-- APPLY_LOCK (R96). -/
  | applyLock (r : LockRecord) (now : Time)
  /-- APPLY_PARK (R97). -/
  | applyPark (r : ParkRecord) (now : Time)
  /-- APPLY_SOC (R98). -/
  | applySoc (r : SocRecord) (now : Time)
  /-- RECOMPUTE_READINESS (R99). -/
  | recomputeReadiness (now : Time)
  /-- CLEAR_OVERRIDE (R101). -/
  | clearOverride
  /-- BUTTON_TICK (R105); a raw sample of `true` is pressed (92 D16). -/
  | buttonTick (rawSample : Bool) (now : Time)
  /-- READ_PRESSED (R113). -/
  | readPressed
  /-- READ_RELEASED (R114). -/
  | readReleased
  /-- READ_HELD (R115). -/
  | readHeld
  /-- READ_DOUBLECLICK (R116). -/
  | readDoubleClick
  /-- OUTPUT_TICK (R121): `h` the hold edge, `dc` the double-click event of this tick. -/
  | outputTick (h dc : Bool) (now : Time)
  /-- APPLY_PINS (R134). -/
  | applyPins
  /-- TICK (R136). -/
  | tick (now : Time) (frames : List Frame) (rawSample : Bool)
  /-- RESET (R161). -/
  | reset
  deriving DecidableEq, Repr

end Sys2Proof
end

