-- ==== Sys2Proof/Config.lean ====
section
/-! DEFINITION. What one build of the block fixes (00_scope.md R3), and the free values: the inputs of
a loop tick and the parameters the spec leaves OPEN. A free value has no body, so no proof can see it. -/

namespace Sys2Proof

/-- The model arguments of 00_scope.md R3. The five windows are counts of the timer; no operation writes
any of them. `TIMER_BITS` is the width of `Time`. -/
structure Config where
  debounceWindow : Time
  doubleClickWindow : Time
  holdThreshold : Time
  latchPulseDuration : Time
  readinessWindow : Time
  frameBatchMax : Nat
  deriving DecidableEq, Repr

/-- The configurations the model accepts: `DOUBLE_CLICK_WINDOW < HOLD_THRESHOLD` (R4, R148) and a batch
bound of at least 1 (45_tick.md R138). -/
def Config.admitted (c : Config) : Bool :=
  decide (c.doubleClickWindow < c.holdThreshold) && decide (1 ≤ c.frameBatchMax)

/-- `DEBOUNCE_WINDOW`, OPEN in R3. Log entry 2. -/
opaque Config.openDebounceWindow : Time

/-- `READINESS_WINDOW`, OPEN in R3. Log entry 2. -/
opaque Config.openReadinessWindow : Time

/-- `FRAME_BATCH_MAX` less one, OPEN in R3. Log entry 2. -/
opaque Config.openFrameBatch : Nat

/-- The configuration the machine holds after reset: the spec's default where R3 gives one (300, 1000,
500), a free value where R3 says OPEN. DESIGN CHOICE, log entry 2. -/
def Config.build : Config where
  debounceWindow := Config.openDebounceWindow
  doubleClickWindow := 300
  holdThreshold := 1000
  latchPulseDuration := 500
  readinessWindow := Config.openReadinessWindow
  frameBatchMax := Config.openFrameBatch + 1

/-- The timer value the n-th loop tick of the free environment samples (45_tick.md R140, 93 U4, U5).
Log entry 3. -/
opaque Config.inputNow : Nat → Time

/-- The raw button level that tick samples (R140). Log entry 3. -/
opaque Config.inputRaw : Nat → Bool

/-- The frames the transport has pending for that tick (R138, 93 U10). Log entry 3. -/
opaque Config.inputFrames : Nat → List Frame

end Sys2Proof
end

