-- ==== Sys2Proof/Decode.lean ====
section
/-! DEFINITION. From stimulus bytes to an operation, and back. A frame is selected by its header word
(30_encoding.md R56, R57); the calls of the other ports have no encoding in the spec and use the model's
own notation (DESIGN CHOICE, log entry 5).

A stimulus opens with five bytes, least significant first: identifier (4 bytes), then a byte whose low
four bits are the length and whose high four bits are the class. Class 0 is a frame: eight data bytes,
`buf[0]` first, and four bytes of arrival time follow. Class 1 is a port call: the identifier field holds
the port's number, its row in opcode_table.json counted from 1, and the port's operands follow. -/

namespace Sys2Proof

/-- Why bytes are no stimulus. No frame header is ever refused: these are about the model's own
notation. -/
inductive DecodeError where
  /-- the bytes end inside a stimulus -/
  | truncated
  /-- the fifth byte names a class the notation does not have -/
  | reservedClass (b : Byte)
  /-- a port call of a number that is no port -/
  | unknownPort (n : Nat)
  /-- a one-bit operand whose byte is neither 0 nor 1 -/
  | badBit (b : Byte)
  /-- a record that no decoder outputs (R65) -/
  | badRecord (valid : Bool) (value : Byte)
  deriving DecidableEq, Repr

/-! ### The frame rows -/

/-- A row of the operation table that a header word selects: it is selected by the words that agree with
`pattern` on every bit of `mask`. -/
structure FrameRow where
  pattern : BitVec 36
  mask : BitVec 36
  kind : FrameKind
  deriving DecidableEq, Repr

/-- The four frame rows of opcode_table.json (R57). -/
def frameRows : List FrameRow :=
  [⟨0x8000003C3, 0xFFFFFFFFF, .lamp⟩,
   ⟨0x800000331, 0xFFFFFFFFF, .lock⟩,
   ⟨0x800000176, 0xFFFFFFFFF, .park⟩,
   ⟨0x80000043C, 0xFFFFFFFFF, .soc⟩]

/-- A row is selected by the header word `h`. -/
def FrameRow.selectedBy (r : FrameRow) (h : BitVec 36) : Bool :=
  h &&& r.mask == r.pattern

/-- The decoder a header word selects, `none` when it selects no row (R57, R66). -/
def kindOfHeader (h : BitVec 36) : FrameKind :=
  match frameRows.find? (fun r => r.selectedBy h) with
  | some r => r.kind
  | none => .none

/-- The operation a frame at the decoders' input selects. -/
def frameInstr (f : Frame) : Instr :=
  match kindOfHeader (headerWord f.identifier f.length) with
  | .lamp => .decodeLamp f
  | .lock => .decodeLock f
  | .park => .decodePark f
  | .soc => .decodeSoc f
  | .none => .frameIgnored f

/-! ### Reading operands -/

def takeByte : List Byte → Except DecodeError (Byte × List Byte)
  | b :: bs => .ok (b, bs)
  | [] => .error .truncated

/-- Two bytes, least significant first. -/
def take16 : List Byte → Except DecodeError (BitVec 16 × List Byte)
  | a :: b :: bs => .ok (b ++ a, bs)
  | _ => .error .truncated

/-- Four bytes, least significant first. -/
def take32 : List Byte → Except DecodeError (BitVec 32 × List Byte)
  | a :: b :: c :: d :: bs => .ok (d ++ c ++ b ++ a, bs)
  | _ => .error .truncated

def takeBit : List Byte → Except DecodeError (Bool × List Byte)
  | b :: bs => if b = 0 then .ok (false, bs) else if b = 1 then .ok (true, bs) else .error (.badBit b)
  | [] => .error .truncated

/-- Eight data bytes, `buf[0]` first (20_memory.md R40). -/
def takeBuffer : List Byte → Except DecodeError (Buffer × List Byte)
  | b0 :: b1 :: b2 :: b3 :: b4 :: b5 :: b6 :: b7 :: bs => .ok (⟨b0, b1, b2, b3, b4, b5, b6, b7⟩, bs)
  | _ => .error .truncated

/-- The greatest value of a signal: 2 bits for the lamp and the lock, 4 for park, 7 for the charge
(10_state.md R11, R19 (g)). -/
def Signal.maxValue : Signal → Byte
  | .lamp => 3
  | .lock => 3
  | .park => 15
  | .soc => 127

/-- A record as a decoder outputs it: valid with a value of the signal's field, or the all-zero invalid
record (R65). An APPLY operation's operand is such a record. -/
def Record.producible {k : Signal} (r : Record k) : Bool :=
  if r.valid then decide (r.value ≤ k.maxValue) else r.value == 0

/-- A record operand; one that no decoder outputs is rejected by name. -/
def takeRecord (k : Signal) (bs : List Byte) : Except DecodeError (Record k × List Byte) := do
  let (valid, bs) ← takeBit bs
  let (value, bs) ← takeByte bs
  let r : Record k := ⟨valid, value⟩
  if r.producible then .ok (r, bs) else .error (.badRecord valid value)

/-- The rest of a frame whose identifier and fifth byte have been read. -/
def takeFrameBody (identifier : BitVec 32) (t : Byte) (bs : List Byte) :
    Except DecodeError (Frame × List Byte) := do
  let (data, bs) ← takeBuffer bs
  let (arrivalTime, bs) ← take32 bs
  .ok (⟨identifier, t.setWidth 4, data, arrivalTime⟩, bs)

/-- The opening five bytes: the identifier field, and the byte of length and class. -/
def takeHead (bs : List Byte) : Except DecodeError ((BitVec 32 × Byte) × List Byte) := do
  let (identifier, bs) ← take32 bs
  let (t, bs) ← takeByte bs
  .ok ((identifier, t), bs)

/-- A whole frame as a port's operand: its class must be 0. -/
def takeFrame (bs : List Byte) : Except DecodeError (Frame × List Byte) := do
  let ((identifier, t), bs) ← takeHead bs
  if t.toNat < 16 then takeFrameBody identifier t bs else .error (.reservedClass t)

/-- `n` frames one after the other. -/
def takeFrames : Nat → List Byte → Except DecodeError (List Frame × List Byte)
  | 0, bs => .ok ([], bs)
  | n + 1, bs => do
    let (f, bs) ← takeFrame bs
    let (fs, bs) ← takeFrames n bs
    .ok (f :: fs, bs)

/-! ### Decoding -/

/-- The operands of a port call. -/
def decodePort (port : Nat) (bs : List Byte) : Except DecodeError (Instr × List Byte) :=
  match port with
  | 1 => do
    let (f, bs) ← takeFrame bs
    .ok (.decodeLamp f, bs)
  | 2 => do
    let (f, bs) ← takeFrame bs
    .ok (.decodeLock f, bs)
  | 3 => do
    let (f, bs) ← takeFrame bs
    .ok (.decodePark f, bs)
  | 4 => do
    let (f, bs) ← takeFrame bs
    .ok (.decodeSoc f, bs)
  | 6 => do
    let (buf, bs) ← takeBuffer bs
    let (position, bs) ← takeByte bs
    let (width, bs) ← takeByte bs
    .ok (.extract buf position width, bs)
  | 7 => do
    let ((identifier, t), bs) ← takeHead bs
    if t.toNat < 16 then .ok (.classify identifier (t.setWidth 4), bs) else .error (.reservedClass t)
  | 8 => do
    let (f, bs) ← takeFrame bs
    .ok (.decodeFrame f, bs)
  | 9 => do
    let (r, bs) ← takeRecord .lamp bs
    let (now, bs) ← take32 bs
    .ok (.applyLamp r now, bs)
  | 10 => do
    let (r, bs) ← takeRecord .lock bs
    let (now, bs) ← take32 bs
    .ok (.applyLock r now, bs)
  | 11 => do
    let (r, bs) ← takeRecord .park bs
    let (now, bs) ← take32 bs
    .ok (.applyPark r now, bs)
  | 12 => do
    let (r, bs) ← takeRecord .soc bs
    let (now, bs) ← take32 bs
    .ok (.applySoc r now, bs)
  | 13 => do
    let (now, bs) ← take32 bs
    .ok (.recomputeReadiness now, bs)
  | 14 => .ok (.clearOverride, bs)
  | 15 => do
    let (rawSample, bs) ← takeBit bs
    let (now, bs) ← take32 bs
    .ok (.buttonTick rawSample now, bs)
  | 16 => .ok (.readPressed, bs)
  | 17 => .ok (.readReleased, bs)
  | 18 => .ok (.readHeld, bs)
  | 19 => .ok (.readDoubleClick, bs)
  | 20 => do
    let (h, bs) ← takeBit bs
    let (dc, bs) ← takeBit bs
    let (now, bs) ← take32 bs
    .ok (.outputTick h dc now, bs)
  | 21 => .ok (.applyPins, bs)
  | 22 => do
    let (now, bs) ← take32 bs
    let (rawSample, bs) ← takeBit bs
    let (count, bs) ← take16 bs
    let (frames, bs) ← takeFrames count.toNat bs
    .ok (.tick now frames rawSample, bs)
  | 23 => .ok (.reset, bs)
  | n => .error (.unknownPort n)

/-- The operation that stands at the head of the bytes, and the bytes after it. Total: bytes that are no
stimulus are rejected by name. -/
def decode (bs : List Byte) : Except DecodeError (Instr × List Byte) := do
  let ((identifier, t), bs) ← takeHead bs
  if t.toNat < 16 then
    let (f, bs) ← takeFrameBody identifier t bs
    .ok (frameInstr f, bs)
  else if t = 0x10 then decodePort identifier.toNat bs
  else .error (.reservedClass t)

/-! ### Encoding -/

/-- Least significant byte first. -/
def put16 (x : BitVec 16) : List Byte :=
  [x.extractLsb' 0 8, x.extractLsb' 8 8]

/-- Least significant byte first. -/
def put32 (x : BitVec 32) : List Byte :=
  [x.extractLsb' 0 8, x.extractLsb' 8 8, x.extractLsb' 16 8, x.extractLsb' 24 8]

def putBit (b : Bool) : List Byte :=
  [if b then 1 else 0]

def putBuffer (b : Buffer) : List Byte :=
  [b.b0, b.b1, b.b2, b.b3, b.b4, b.b5, b.b6, b.b7]

def putRecord {k : Signal} (r : Record k) : List Byte :=
  putBit r.valid ++ [r.value]

/-- The header word (R56) as five bytes; the four bits above it are the class, 0. -/
def putHeader (identifier : BitVec 32) (length : BitVec 4) : List Byte :=
  put32 identifier ++ [length.setWidth 8]

def putFrame (f : Frame) : List Byte :=
  putHeader f.identifier f.length ++ putBuffer f.data ++ put32 f.arrivalTime

def putFrames : List Frame → List Byte
  | [] => []
  | f :: fs => putFrame f ++ putFrames fs

/-- The head of a port call. -/
def putPort (port : BitVec 32) : List Byte :=
  put32 port ++ [0x10]

/-- A decoder's stimulus: the frame itself where its header selects that decoder, else a call of the
decoder's port with the frame as operand (R84 gives a decoder a result on every frame). -/
def putDecoder (k : FrameKind) (port : BitVec 32) (f : Frame) : List Byte :=
  if kindOfHeader (headerWord f.identifier f.length) = k then putFrame f else putPort port ++ putFrame f

/-- The bytes of an operation. -/
def encode : Instr → List Byte
  | .decodeLamp f => putDecoder .lamp 1 f
  | .decodeLock f => putDecoder .lock 2 f
  | .decodePark f => putDecoder .park 3 f
  | .decodeSoc f => putDecoder .soc 4 f
  | .frameIgnored f => putFrame f
  | .extract buf position width => putPort 6 ++ putBuffer buf ++ [position, width]
  | .classify identifier length => putPort 7 ++ putHeader identifier length
  | .decodeFrame f => putPort 8 ++ putFrame f
  | .applyLamp r now => putPort 9 ++ putRecord r ++ put32 now
  | .applyLock r now => putPort 10 ++ putRecord r ++ put32 now
  | .applyPark r now => putPort 11 ++ putRecord r ++ put32 now
  | .applySoc r now => putPort 12 ++ putRecord r ++ put32 now
  | .recomputeReadiness now => putPort 13 ++ put32 now
  | .clearOverride => putPort 14
  | .buttonTick rawSample now => putPort 15 ++ putBit rawSample ++ put32 now
  | .readPressed => putPort 16
  | .readReleased => putPort 17
  | .readHeld => putPort 18
  | .readDoubleClick => putPort 19
  | .outputTick h dc now => putPort 20 ++ putBit h ++ putBit dc ++ put32 now
  | .applyPins => putPort 21
  | .tick now frames rawSample =>
    putPort 22 ++ put32 now ++ putBit rawSample ++ put16 (BitVec.ofNat 16 frames.length) ++ putFrames frames
  | .reset => putPort 23

/-! ### Instructions given as one number -/

/-- The operand bytes of a port call whose whole bits are `w`. -/
def operandLength (port w : Nat) : Nat :=
  match port with
  | 1 => 17
  | 2 => 17
  | 3 => 17
  | 4 => 17
  | 6 => 10
  | 7 => 5
  | 8 => 17
  | 9 => 6
  | 10 => 6
  | 11 => 6
  | 12 => 6
  | 13 => 4
  | 15 => 5
  | 20 => 6
  | 22 => 7 + 17 * (w / 2 ^ 80 % 65536)
  | _ => 0

/-- How many bytes the stimulus has whose bits, bit 0 the least significant bit of the first byte, are
`w` and then zeros. -/
def stimulusLength (w : Nat) : Nat :=
  if w / 2 ^ 36 % 16 = 0 then 17
  else if w / 2 ^ 32 % 256 = 0x10 then 5 + operandLength (w % 2 ^ 32) w
  else 5

/-- The lowest `n` bytes of `w`, least significant first. -/
def wordBytes : Nat → Nat → List Byte
  | 0, _ => []
  | n + 1, w => BitVec.ofNat 8 w :: wordBytes n (w / 256)

/-- The bytes of the instruction whose lowest `nbits` bits are those of `w` and whose other bits are 0. -/
def stimulusOfWord (nbits w : Nat) : List Byte :=
  wordBytes (stimulusLength (w % 2 ^ nbits)) (w % 2 ^ nbits)

/-- The operation the decoder reads from an instruction given as a number. -/
def decodeTableWord (nbits w : Nat) : Option Instr :=
  match decode (stimulusOfWord nbits w) with
  | .ok (i, _) => some i
  | .error _ => none

end Sys2Proof
end

