-- ==== Sys2Proof/Machine/State.lean ====
section
/-! DEFINITION. The state of the block (10_state.md R10 to R31), the model's own fields beside it, what a
step can stop with, and the machine after reset (R34). A one-bit register is a `Bool`, 1 is `true`. -/

namespace Sys2Proof.Machine

/-! ### The block's records -/

/-- The slot of one monitored signal (R11, R12, R13). -/
structure Slot where
  cur : Byte
  prev : Byte
  ts : Time
  seen : Bool
  deriving DecidableEq, Repr

/-- The Vehicle State `VS` (R11 to R18). -/
structure VehicleState where
  lamp : Slot
  lock : Slot
  park : Slot
  soc : Slot
  unlocked : Bool
  parked : Bool
  lampRequestedOn : Bool
  systemReady : Bool
  override : Bool
  overrideLevel : Bool
  deriving DecidableEq, Repr

/-- The Button State `BS` (R20 to R26). -/
structure ButtonState where
  raw : Bool
  deb : Bool
  prevDeb : Bool
  pressed : Bool
  released : Bool
  held : Bool
  doubleClick : Bool
  holdReported : Bool
  lastChange : Time
  lastPress : Time
  prevPress : Time
  pressCount : BitVec 32
  hasPress : Bool
  holdDuration : Time
  deriving DecidableEq, Repr

/-- The Output State `OS` (R28 to R30). -/
structure OutputState where
  light : Bool
  latch : Bool
  latchStart : Time
  prevLight : Bool
  prevLatch : Bool
  deriving DecidableEq, Repr

/-- The levels last given to the pin-I/O collaborator, `PIN` (R31). -/
structure PinState where
  light : Bool
  latch : Bool
  deriving DecidableEq, Repr

/-! ### What an operation returns -/

/-- A level-set call (30_encoding.md R70). -/
inductive PinEvent where
  | setLight (level : Bool)
  | setLatch (level : Bool)
  deriving DecidableEq, Repr

/-- DECODE_FRAME's answer: the kind together with the record of that kind, and no record for NONE
(41_frame_decode.md R91). -/
inductive Decoded where
  | lamp (r : LampRecord)
  | lock (r : LockRecord)
  | park (r : ParkRecord)
  | soc (r : SocRecord)
  | none
  deriving DecidableEq, Repr

/-- What the last operation returned or output: the "result" column of the operation table, and for TICK
its events and the four flag values read in phase 4 (92 D31). -/
inductive Response where
  /-- no result -/
  | none
  /-- EXTRACT's value -/
  | value (v : BitVec 64)
  /-- CLASSIFY's kind -/
  | kind (k : FrameKind)
  /-- the record of a decoder -/
  | record (k : Signal) (r : Record k)
  /-- DECODE_FRAME's kind and record -/
  | decoded (d : Decoded)
  /-- the bit a READ operation returns -/
  | bit (b : Bool)
  /-- APPLY_PINS' events -/
  | events (es : List PinEvent)
  /-- TICK's events and the values of `pressed`, `released`, `held`, `doubleClick` it read -/
  | tick (es : List PinEvent) (p r h dc : Bool)
  deriving DecidableEq, Repr

/-! ### The machine's state -/

/-- `vs`, `bs`, `os` and `pin` are the block's whole state (R10). The other four are the model's own:
`cfg` the configuration arguments of 00_scope.md R3, which no operation writes (log entry 1); `stream`
the stimuli presented and not yet taken (log entry 4); `inputIndex` the number of loop ticks that drew
their inputs from the free environment (log entry 3); `out` what the last operation returned (log
entry 6). -/
structure State where
  vs : VehicleState
  bs : ButtonState
  os : OutputState
  pin : PinState
  cfg : Config
  stream : List Byte
  inputIndex : Nat
  out : Response
  deriving DecidableEq, Repr

/-! ### How a step can stop -/

/-- There is no fault: the block raises none, takes no trap and has no fatal condition (60_exceptions.md
R143, R153). So no constructor; nothing can answer with one (safe: it follows the spec). -/
inductive Fault where
  deriving DecidableEq, Repr

/-- Why the MODEL refuses a step. None of them is a behaviour of the block. -/
inductive Refusal where
  /-- An instruction without a meaning, raised by `exec` only; no instruction of this model is left
  without one. Safe. -/
  | notModelled (mnemonic : String)
  /-- The configuration breaks `DOUBLE_CLICK_WINDOW < HOLD_THRESHOLD` or has a batch bound of 0; raised by
  `step`, which gives the rules no meaning under it (00_scope.md R4, 60_exceptions.md R148). Safe. -/
  | configViolation
  /-- The bytes at the head of `stream` are no stimulus of the model's notation; raised by `step`. Safe. -/
  | badStimulus (e : DecodeError)
  deriving DecidableEq, Repr

/-! ### Reset (R34, 70_reset_and_hazards.md R162 to R164) -/

/-- A slot that has received nothing and holds the value `v`. -/
def Slot.empty (v : Byte) : Slot where
  cur := v
  prev := v
  ts := 0
  seen := false

/-- `VS` after reset (R162). -/
def VehicleState.reset : VehicleState where
  lamp := Slot.empty 0
  lock := Slot.empty 0
  park := Slot.empty 1
  soc := Slot.empty 0
  unlocked := false
  parked := true
  lampRequestedOn := false
  systemReady := false
  override := false
  overrideLevel := false

/-- `BS` after reset (R163). -/
def ButtonState.reset : ButtonState where
  raw := false
  deb := false
  prevDeb := false
  pressed := false
  released := false
  held := false
  doubleClick := false
  holdReported := false
  lastChange := 0
  lastPress := 0
  prevPress := 0
  pressCount := 0
  hasPress := false
  holdDuration := 0

/-- `OS` after reset (R164). -/
def OutputState.reset : OutputState where
  light := false
  latch := false
  latchStart := 0
  prevLight := false
  prevLatch := false

/-- `PIN` after reset (R164): both outputs inactive. -/
def PinState.reset : PinState where
  light := false
  latch := false

/-- The machine right after reset: the block's records as R34 gives them; of the model's own fields, the
configuration of log entry 2, nothing presented, no tick run, nothing returned (log entry 10). -/
def State.reset : State where
  vs := VehicleState.reset
  bs := ButtonState.reset
  os := OutputState.reset
  pin := PinState.reset
  cfg := Config.build
  stream := []
  inputIndex := 0
  out := .none

end Sys2Proof.Machine
end

