-- ==== Sys2Proof/Machine/Flags.lean ====
section
/-! DEFINITION. The one-bit conditions the operations compute: the derived booleans, staleness, and the
tests of the five timing windows (60_exceptions.md R154). Every comparison is unsigned (00_scope.md R6). -/

namespace Sys2Proof.Machine

/-- Elapsed time, the wrapping subtraction modulo `2^TIMER_BITS` (R5). -/
def elapsed (now t : Time) : Time :=
  now - t

/-- A lamp-request value asks for the lamp: on or ramping up (R61, R94). -/
def lampOn (value : Byte) : Bool :=
  value == 1 || value == 2

/-- A lock value is one of the two unlocked ones; every other value is locked (R62, R96). -/
def lockOpen (value : Byte) : Bool :=
  value == 2 || value == 3

/-- A park value is exactly "park" (R63, R97). -/
def parkSet (value : Byte) : Bool :=
  value == 1

/-- A signal is stale: it never arrived, or its age is at least the readiness window (R99). -/
def stale (c : Config) (now : Time) (slot : Slot) : Bool :=
  !slot.seen || decide (c.readinessWindow ≤ elapsed now slot.ts)

/-- Not all four signals are stale (R99). -/
def ready (c : Config) (now : Time) (v : VehicleState) : Bool :=
  !(stale c now v.lamp && stale c now v.lock && stale c now v.park && stale c now v.soc)

/-- A raw change has been stable for the debounce window (R107). -/
def debounceDone (c : Config) (now : Time) (b : ButtonState) : Bool :=
  b.raw != b.deb && decide (c.debounceWindow ≤ elapsed now b.lastChange)

/-- The double-click test of a press edge, on the press times before it (R109): the lower bound is
strict, the upper one inclusive. -/
def doubleClickNow (c : Config) (now : Time) (b : ButtonState) : Bool :=
  b.hasPress && decide (c.debounceWindow < elapsed now b.lastPress)
    && decide (elapsed now b.lastPress ≤ c.doubleClickWindow)

/-- A press has lasted the hold threshold and has not been reported (R112). -/
def holdNow (c : Config) (now : Time) (b : ButtonState) : Bool :=
  !b.holdReported && decide (c.holdThreshold ≤ elapsed now b.lastPress)

/-- The automatic light target (R122). -/
def autoTarget (v : VehicleState) : Bool :=
  v.lampRequestedOn && v.systemReady

/-- The light target: the override level while overridden, else the automatic target (R127). -/
def lightTarget (v : VehicleState) : Bool :=
  if v.override then v.overrideLevel else autoTarget v

/-- The gate of the latch (R129). -/
def latchGate (v : VehicleState) : Bool :=
  v.systemReady && v.parked && v.unlocked

/-- The latch pulse has lasted its duration (R130). -/
def pulseDone (c : Config) (now : Time) (o : OutputState) : Bool :=
  decide (c.latchPulseDuration ≤ elapsed now o.latchStart)

end Sys2Proof.Machine
end

