-- ==== Sys2Proof/Machine/Ops.lean ====
section
/-! DEFINITION. The shared operations over the block's records and over the state. There is no operation
that takes an exception and none that returns from one: the block has neither (60_exceptions.md R143,
R153). -/

namespace Sys2Proof.Machine

/-! ### Updates of the state, one record at a time -/

def State.setVs (s : State) (v : VehicleState) : State := { s with vs := v }

def State.setBs (s : State) (b : ButtonState) : State := { s with bs := b }

def State.setOs (s : State) (o : OutputState) : State := { s with os := o }

def State.setPin (s : State) (p : PinState) : State := { s with pin := p }

/-- Records what an operation returned (log entry 6). -/
def State.answer (s : State) (r : Response) : State := { s with out := r }

/-- Sets the bytes that are still to be taken as stimuli (log entry 4). -/
def State.setStream (s : State) (bs : List Byte) : State := { s with stream := bs }

/-- One more loop tick has drawn its inputs from the free environment (log entry 3). -/
def State.nextInput (s : State) : State := { s with inputIndex := s.inputIndex + 1 }

/-- Puts the block's four records at their reset values; the model's own fields stay (log entry 9). -/
def State.resetBlock (s : State) : State :=
  { s with vs := VehicleState.reset, bs := ButtonState.reset, os := OutputState.reset, pin := PinState.reset }

/-! ### The vehicle record -/

/-- A valid record arrives in a slot: the current value moves to the previous one, the new value and the
tick's time are stored, and the signal has been seen (R93). -/
def Slot.store (slot : Slot) (value : Byte) (now : Time) : Slot where
  cur := value
  prev := slot.cur
  ts := now
  seen := true

/-- CLEAR_OVERRIDE (R101). -/
def VehicleState.clearOverride (v : VehicleState) : VehicleState :=
  { v with override := false, overrideLevel := false }

/-- CLEAR_OVERRIDE when `c` holds. -/
def VehicleState.clearOverrideIf (v : VehicleState) (c : Bool) : VehicleState :=
  if c then v.clearOverride else v

/-! ### The button record: the read-clears contract (R117) -/

def ButtonState.clearPressed (b : ButtonState) : ButtonState := { b with pressed := false }

def ButtonState.clearReleased (b : ButtonState) : ButtonState := { b with released := false }

/-- Clears `held` and leaves `holdReported` (R115). -/
def ButtonState.clearHeld (b : ButtonState) : ButtonState := { b with held := false }

def ButtonState.clearDoubleClick (b : ButtonState) : ButtonState := { b with doubleClick := false }

end Sys2Proof.Machine
end

