-- ==== Sys2Proof/Machine/Button.lean ====
section
/-! DEFINITION. The Button State Machine (43_button.md): BUTTON_TICK and the four flag reads. It reads no
field of `VS` or `OS` (R120). -/

namespace Sys2Proof.Machine

/-- The previous-level copy and the raw sampling that open a BUTTON_TICK (R106). -/
def ButtonState.sample (b : ButtonState) (rawSample : Bool) (now : Time) : ButtonState :=
  if rawSample = b.raw then { b with prevDeb := b.deb }
  else { b with prevDeb := b.deb, raw := rawSample, lastChange := now }

/-- The press edge (R108): the debounced level goes to 1, `pressed` is set, `doubleClick` by the test of
R109 on the old press times, then the press bookkeeping (R110). -/
def ButtonState.pressEdge (b : ButtonState) (c : Config) (now : Time) : ButtonState :=
  { b with
    deb := true
    pressed := true
    doubleClick := b.doubleClick || doubleClickNow c now b
    pressCount := b.pressCount + 1
    prevPress := b.lastPress
    lastPress := now
    hasPress := true }

/-- The release edge (R111): the debounced level goes to 0, `released` is set, the hold state cleared. -/
def ButtonState.releaseEdge (b : ButtonState) : ButtonState :=
  { b with deb := false, released := true, held := false, holdReported := false, holdDuration := 0 }

/-- The debounce acceptance with its edge actions (R107). -/
def ButtonState.debounce (b : ButtonState) (c : Config) (now : Time) : ButtonState :=
  if debounceDone c now b then
    if b.raw then b.pressEdge c now else b.releaseEdge
  else b

/-- Hold tracking, on every tick at whose end the debounced level is pressed (R112). -/
def ButtonState.trackHold (b : ButtonState) (c : Config) (now : Time) : ButtonState :=
  if b.deb then
    { b with
      holdDuration := elapsed now b.lastPress
      held := b.held || holdNow c now b
      holdReported := b.holdReported || holdNow c now b }
  else b

/-- BUTTON_TICK (R105): sampling, debounce acceptance, hold tracking, in that order. -/
def ButtonState.tick (b : ButtonState) (c : Config) (rawSample : Bool) (now : Time) : ButtonState :=
  ((b.sample rawSample now).debounce c now).trackHold c now

/-- BUTTON_TICK (R105). -/
def execButtonTick (rawSample : Bool) (now : Time) (s : State) : Host.Outcome State Fault Refusal :=
  .next ((s.setBs (s.bs.tick s.cfg rawSample now)).answer .none)

/-- READ_PRESSED (R113). -/
def execReadPressed (s : State) : Host.Outcome State Fault Refusal :=
  .next ((s.setBs s.bs.clearPressed).answer (.bit s.bs.pressed))

/-- READ_RELEASED (R114). -/
def execReadReleased (s : State) : Host.Outcome State Fault Refusal :=
  .next ((s.setBs s.bs.clearReleased).answer (.bit s.bs.released))

/-- READ_HELD (R115). -/
def execReadHeld (s : State) : Host.Outcome State Fault Refusal :=
  .next ((s.setBs s.bs.clearHeld).answer (.bit s.bs.held))

/-- READ_DOUBLECLICK (R116). -/
def execReadDoubleClick (s : State) : Host.Outcome State Fault Refusal :=
  .next ((s.setBs s.bs.clearDoubleClick).answer (.bit s.bs.doubleClick))

end Sys2Proof.Machine
end

