-- ==== Sys2Proof/Machine/Operands.lean ====
section
/-! DEFINITION. Operand forms: the 64-bit view of a frame's data, the bit field a descriptor names, and
the fixed descriptors of the four signals (20_memory.md, 30_encoding.md section 2). -/

namespace Sys2Proof.Machine

/-- `MemRead(0, 8)`: the eight bytes as one 64-bit value, byte 0 least significant (R41). -/
def memRead (b : Buffer) : BitVec 64 :=
  b.b7 ++ b.b6 ++ b.b5 ++ b.b4 ++ b.b3 ++ b.b2 ++ b.b1 ++ b.b0

/-- `MemWrite(0, 8, a)` on the buffer: byte i takes bits 8i+7 down to 8i. Used by PACK only (R81). -/
def memWrite (a : BitVec 64) : Buffer where
  b0 := a.extractLsb' 0 8
  b1 := a.extractLsb' 8 8
  b2 := a.extractLsb' 16 8
  b3 := a.extractLsb' 24 8
  b4 := a.extractLsb' 32 8
  b5 := a.extractLsb' 40 8
  b6 := a.extractLsb' 48 8
  b7 := a.extractLsb' 56 8

/-- The access `(position, width)` stays inside the 64-bit view (R76). -/
def fieldInRange (position width : Byte) : Bool :=
  decide (position.toNat ≤ 63) && decide (width.toNat ≤ position.toNat + 1)

/-- `shift = position - width + 1` of an access in range (R77). -/
def fieldShift (position width : Byte) : Nat :=
  position.toNat + 1 - width.toNat

/-- `mask = 2^width - 1`, over the naturals (R7, R77). -/
def fieldMask (width : Byte) : Nat :=
  2 ^ width.toNat - 1

/-- A signal's identifier, and the position and width of its field (R58, R59). -/
structure Descriptor where
  identifier : BitVec 32
  position : Byte
  width : Byte
  deriving DecidableEq, Repr

/-- The signal layout, the authoritative table of R60. -/
def descriptor : Signal → Descriptor
  | .lamp => ⟨0x000003C3, 12, 2⟩
  | .lock => ⟨0x00000331, 35, 2⟩
  | .park => ⟨0x00000176, 34, 4⟩
  | .soc => ⟨0x0000043C, 28, 7⟩

/-- The only accepted frame length (R57, R59). -/
def frameLength : BitVec 4 := 8

end Sys2Proof.Machine
end

