-- ==== Sys2Proof/Machine/Extract.lean ====
section
/-! DEFINITION. The Bit Field Extractor (40_extract.md): EXTRACT, and the specification helper PACK. -/

namespace Sys2Proof.Machine

/-- EXTRACT(buf, position, width) (R77): the field of the 64-bit view, 0 out of range (R76). -/
def extractField (buf : Buffer) (position width : Byte) : BitVec 64 :=
  if fieldInRange position width then
    BitVec.ofNat 64 (((memRead buf).toNat >>> fieldShift position width) &&& fieldMask width)
  else 0

/-- PACK(buf, position, width, v) (R81): the operation that changes exactly the field's bits. It is a
specification helper, not hardware, and no operation of the block calls it. It is meant for an access in
range of width at least 1. -/
def pack (buf : Buffer) (position width : Byte) (v : Nat) : Buffer :=
  let mask := BitVec.ofNat 64 (fieldMask width) <<< fieldShift position width
  let field := BitVec.ofNat 64 (v &&& fieldMask width) <<< fieldShift position width
  memWrite ((memRead buf &&& ~~~mask) ||| field)

/-- EXTRACT (R75, R77, R80): the value is the response; no state is read or written. -/
def execExtract (buf : Buffer) (position width : Byte) (s : State) : Host.Outcome State Fault Refusal :=
  .next (s.answer (.value (extractField buf position width)))

end Sys2Proof.Machine
end

