-- ==== Sys2Proof/Machine/FrameDecode.lean ====
section
/-! DEFINITION. The frame header validator, the four frame decoders and the dispatch
(41_frame_decode.md). All are pure: the result is the response and nothing else changes (R90). -/

namespace Sys2Proof.Machine

/-- CLASSIFY (R83): the length first, then the identifier on all 32 bits. -/
def classify (identifier : BitVec 32) (length : BitVec 4) : FrameKind :=
  if length ≠ frameLength then .none
  else if identifier = (descriptor .lamp).identifier then .lamp
  else if identifier = (descriptor .lock).identifier then .lock
  else if identifier = (descriptor .park).identifier then .park
  else if identifier = (descriptor .soc).identifier then .soc
  else .none

/-- The decoder of signal `k` (R84): the all-zero invalid record when identifier or length does not
match (R89), else a valid record with the low 8 bits of the field. -/
def decodeSignal (k : Signal) (f : Frame) : Record k :=
  if f.identifier ≠ (descriptor k).identifier ∨ f.length ≠ frameLength then ⟨false, 0⟩
  else ⟨true, (extractField f.data (descriptor k).position (descriptor k).width).setWidth 8⟩

/-- DECODE_FRAME (R91): the decoder that CLASSIFY selects; no record for NONE. -/
def dispatchFrame (f : Frame) : Decoded :=
  match classify f.identifier f.length with
  | .lamp => .lamp (decodeSignal .lamp f)
  | .lock => .lock (decodeSignal .lock f)
  | .park => .park (decodeSignal .park f)
  | .soc => .soc (decodeSignal .soc f)
  | .none => .none

/-- DECODE_LAMP (R85). -/
def execDecodeLamp (f : Frame) (s : State) : Host.Outcome State Fault Refusal :=
  .next (s.answer (.record .lamp (decodeSignal .lamp f)))

/-- DECODE_LOCK (R86). -/
def execDecodeLock (f : Frame) (s : State) : Host.Outcome State Fault Refusal :=
  .next (s.answer (.record .lock (decodeSignal .lock f)))

/-- DECODE_PARK (R87). -/
def execDecodePark (f : Frame) (s : State) : Host.Outcome State Fault Refusal :=
  .next (s.answer (.record .park (decodeSignal .park f)))

/-- DECODE_SOC (R88). -/
def execDecodeSoc (f : Frame) (s : State) : Host.Outcome State Fault Refusal :=
  .next (s.answer (.record .soc (decodeSignal .soc f)))

/-- FRAME_IGNORED (R66): no operation runs, nothing changes. The frame is not read. -/
def execFrameIgnored (_f : Frame) (s : State) : Host.Outcome State Fault Refusal :=
  .next s

/-- CLASSIFY (R83). -/
def execClassify (identifier : BitVec 32) (length : BitVec 4) (s : State) :
    Host.Outcome State Fault Refusal :=
  .next (s.answer (.kind (classify identifier length)))

/-- DECODE_FRAME (R91). -/
def execDecodeFrame (f : Frame) (s : State) : Host.Outcome State Fault Refusal :=
  .next (s.answer (.decoded (dispatchFrame f)))

end Sys2Proof.Machine
end

