-- ==== Sys2Proof/Machine/Output.lean ====
section
/-! DEFINITION. The Output Decision Logic (44_output.md): OUTPUT_TICK and APPLY_PINS. -/

namespace Sys2Proof.Machine

/-- The manual-override part of OUTPUT_TICK: locked clears it (R123, R126); a double-click while unlocked
enters it at the negation of this tick's automatic target (R124) or toggles its level (R125). -/
def VehicleState.updateOverride (v : VehicleState) (dc : Bool) : VehicleState :=
  if !v.unlocked then v.clearOverride
  else if dc then
    if v.override then { v with overrideLevel := !v.overrideLevel }
    else { v with override := true, overrideLevel := !autoTarget v }
  else v

/-- The latch part of OUTPUT_TICK: the trigger (R129), else the timeout (R130). A hold edge during a
pulse starts nothing (R131), and only the timeout ends a pulse (R132). -/
def OutputState.updateLatch (o : OutputState) (c : Config) (h : Bool) (now : Time) (v : VehicleState) :
    OutputState :=
  if h && latchGate v && !o.latch then { o with latch := true, latchStart := now }
  else if o.latch && pulseDone c now o then { o with latch := false }
  else o

/-- The output part of OUTPUT_TICK, on the vehicle state after the override update (R127, R129, R130). -/
def OutputState.drive (o : OutputState) (c : Config) (h : Bool) (now : Time) (v : VehicleState) :
    OutputState :=
  { o with light := lightTarget v }.updateLatch c h now v

/-- The level-set calls of APPLY_PINS: only on change, the light first (R134). -/
def OutputState.events (o : OutputState) : List PinEvent :=
  (if o.light = o.prevLight then [] else [.setLight o.light])
    ++ (if o.latch = o.prevLatch then [] else [.setLatch o.latch])

/-- The previous-tick copies after APPLY_PINS (R134). -/
def OutputState.copyLevels (o : OutputState) : OutputState :=
  { o with prevLight := o.light, prevLatch := o.latch }

/-- The pins after APPLY_PINS: each takes the new level where its level-set call was made (R134). -/
def PinState.follow (p : PinState) (o : OutputState) : PinState where
  light := if o.light = o.prevLight then p.light else o.light
  latch := if o.latch = o.prevLatch then p.latch else o.latch

/-- OUTPUT_TICK (R121). -/
def execOutputTick (h dc : Bool) (now : Time) (s : State) : Host.Outcome State Fault Refusal :=
  let v := s.vs.updateOverride dc
  .next (((s.setVs v).setOs (s.os.drive s.cfg h now v)).answer .none)

/-- APPLY_PINS (R134). -/
def execApplyPins (s : State) : Host.Outcome State Fault Refusal :=
  .next (((s.setOs s.os.copyLevels).setPin (s.pin.follow s.os)).answer (.events s.os.events))

end Sys2Proof.Machine
end

