-- ==== Sys2Proof/Machine/Vehicle.lean ====
section
/-! DEFINITION. The Vehicle State Tracker (42_vehicle_state.md): the four APPLY operations,
RECOMPUTE_READINESS and CLEAR_OVERRIDE. An invalid record changes nothing (R102). -/

namespace Sys2Proof.Machine

/-- APPLY_LAMP (R93, R94): the slot, the derived boolean, and on its 1-to-0 edge the clear of the
override (R95). -/
def VehicleState.applyLamp (v : VehicleState) (r : LampRecord) (now : Time) : VehicleState :=
  if r.valid then
    { v with lamp := v.lamp.store r.value now, lampRequestedOn := lampOn r.value }.clearOverrideIf
      (v.lampRequestedOn && !lampOn r.value)
  else v

/-- APPLY_LOCK (R93, R96): the slot, the derived boolean, and the clear of the override whenever the new
value is locked. -/
def VehicleState.applyLock (v : VehicleState) (r : LockRecord) (now : Time) : VehicleState :=
  if r.valid then
    { v with lock := v.lock.store r.value now, unlocked := lockOpen r.value }.clearOverrideIf
      (!lockOpen r.value)
  else v

/-- APPLY_PARK (R93, R97). -/
def VehicleState.applyPark (v : VehicleState) (r : ParkRecord) (now : Time) : VehicleState :=
  if r.valid then { v with park := v.park.store r.value now, parked := parkSet r.value } else v

/-- APPLY_SOC (R93, R98): the slot and nothing more. -/
def VehicleState.applySoc (v : VehicleState) (r : SocRecord) (now : Time) : VehicleState :=
  if r.valid then { v with soc := v.soc.store r.value now } else v

/-- RECOMPUTE_READINESS (R99). Staleness changes nothing else (R100). -/
def VehicleState.recomputeReadiness (v : VehicleState) (c : Config) (now : Time) : VehicleState :=
  { v with systemReady := ready c now v }

/-- APPLY_LAMP (R94). -/
def execApplyLamp (r : LampRecord) (now : Time) (s : State) : Host.Outcome State Fault Refusal :=
  .next ((s.setVs (s.vs.applyLamp r now)).answer .none)

/-- APPLY_LOCK (R96). -/
def execApplyLock (r : LockRecord) (now : Time) (s : State) : Host.Outcome State Fault Refusal :=
  .next ((s.setVs (s.vs.applyLock r now)).answer .none)

/-- APPLY_PARK (R97). -/
def execApplyPark (r : ParkRecord) (now : Time) (s : State) : Host.Outcome State Fault Refusal :=
  .next ((s.setVs (s.vs.applyPark r now)).answer .none)

/-- APPLY_SOC (R98). -/
def execApplySoc (r : SocRecord) (now : Time) (s : State) : Host.Outcome State Fault Refusal :=
  .next ((s.setVs (s.vs.applySoc r now)).answer .none)

/-- RECOMPUTE_READINESS (R99). -/
def execRecomputeReadiness (now : Time) (s : State) : Host.Outcome State Fault Refusal :=
  .next ((s.setVs (s.vs.recomputeReadiness s.cfg now)).answer .none)

/-- CLEAR_OVERRIDE (R101). -/
def execClearOverride (s : State) : Host.Outcome State Fault Refusal :=
  .next ((s.setVs s.vs.clearOverride).answer .none)

end Sys2Proof.Machine
end

