-- ==== Sys2Proof/Machine/Tick.lean ====
section
/-! DEFINITION. The control loop (45_tick.md): TICK, and RESET. -/

namespace Sys2Proof.Machine

/-- The APPLY operation a decoded frame selects; NONE changes nothing (R137, phase 1). -/
def VehicleState.applyDecoded (v : VehicleState) (d : Decoded) (now : Time) : VehicleState :=
  match d with
  | .lamp r => v.applyLamp r now
  | .lock r => v.applyLock r now
  | .park r => v.applyPark r now
  | .soc r => v.applySoc r now
  | .none => v

/-- Phase 1: the tick's frames in list order, each wholly applied before the next, all with the same
`now` (R138). -/
def VehicleState.applyFrames (v : VehicleState) (frames : List Frame) (now : Time) : VehicleState :=
  frames.foldl (fun v f => v.applyDecoded (dispatchFrame f) now) v

/-- The batch of a tick: at most `FRAME_BATCH_MAX` of the pending frames; the others stay with the
transport (R138, log entry 8). -/
def batch (c : Config) (frames : List Frame) : List Frame :=
  frames.take c.frameBatchMax

/-- Phases 1 and 2: the frames, then the readiness (R137). -/
def VehicleState.receive (v : VehicleState) (c : Config) (now : Time) (frames : List Frame) :
    VehicleState :=
  (v.applyFrames (batch c frames) now).recomputeReadiness c now

/-- Phase 4 on the button record: all four flags are read and so cleared (R139). -/
def ButtonState.clearFlags (b : ButtonState) : ButtonState :=
  b.clearPressed.clearReleased.clearHeld.clearDoubleClick

/-- TICK (R136, R137): the six phases in order. The response holds the events and the four values read
in phase 4 (92 D31). -/
def execTick (now : Time) (frames : List Frame) (rawSample : Bool) (s : State) :
    Host.Outcome State Fault Refusal :=
  let b := s.bs.tick s.cfg rawSample now
  let v := (s.vs.receive s.cfg now frames).updateOverride b.doubleClick
  let o := s.os.drive s.cfg b.held now v
  .next
    (((((s.setVs v).setBs b.clearFlags).setOs o.copyLevels).setPin (s.pin.follow o)).answer
      (.tick o.events b.pressed b.released b.held b.doubleClick))

/-- RESET (R161 to R164): every field of the block at its reset value, no input read, no level-set call
made. -/
def execReset (s : State) : Host.Outcome State Fault Refusal :=
  .next (s.resetBlock.answer .none)

end Sys2Proof.Machine
end

