-- ==== Sys2Proof/Machine/Dispatch.lean ====
section
/-! DEFINITION. One arm per constructor of `Instr`, each a call of that operation's meaning. -/

namespace Sys2Proof.Machine

def exec (i : Instr) (s : State) : Host.Outcome State Fault Refusal :=
  match i with
  | .decodeLamp f => Sys2Proof.Machine.execDecodeLamp f s
  | .decodeLock f => Sys2Proof.Machine.execDecodeLock f s
  | .decodePark f => Sys2Proof.Machine.execDecodePark f s
  | .decodeSoc f => Sys2Proof.Machine.execDecodeSoc f s
  | .frameIgnored f => Sys2Proof.Machine.execFrameIgnored f s
  | .extract buf position width => Sys2Proof.Machine.execExtract buf position width s
  | .classify identifier length => Sys2Proof.Machine.execClassify identifier length s
  | .decodeFrame f => Sys2Proof.Machine.execDecodeFrame f s
  | .applyLamp r now => Sys2Proof.Machine.execApplyLamp r now s
  | .applyLock r now => Sys2Proof.Machine.execApplyLock r now s
  | .applyPark r now => Sys2Proof.Machine.execApplyPark r now s
  | .applySoc r now => Sys2Proof.Machine.execApplySoc r now s
  | .recomputeReadiness now => Sys2Proof.Machine.execRecomputeReadiness now s
  | .clearOverride => Sys2Proof.Machine.execClearOverride s
  | .buttonTick rawSample now => Sys2Proof.Machine.execButtonTick rawSample now s
  | .readPressed => Sys2Proof.Machine.execReadPressed s
  | .readReleased => Sys2Proof.Machine.execReadReleased s
  | .readHeld => Sys2Proof.Machine.execReadHeld s
  | .readDoubleClick => Sys2Proof.Machine.execReadDoubleClick s
  | .outputTick h dc now => Sys2Proof.Machine.execOutputTick h dc now s
  | .applyPins => Sys2Proof.Machine.execApplyPins s
  | .tick now frames rawSample => Sys2Proof.Machine.execTick now frames rawSample s
  | .reset => Sys2Proof.Machine.execReset s

end Sys2Proof.Machine
end

