-- ==== Sys2Proof/Machine/Fetch.lean ====
section
/-! DEFINITION. What the next step runs: the stimulus at the head of `stream`, and with nothing presented
one loop tick with free inputs (log entries 3 and 4). -/

namespace Sys2Proof.Machine

/-- The loop tick the free environment offers next (45_tick.md R140): timer value, pending frames and raw
level are free values. -/
def freeTick (s : State) : Instr :=
  .tick (Config.inputNow s.inputIndex) (Config.inputFrames s.inputIndex) (Config.inputRaw s.inputIndex)

/-- The next operation and the state it runs on, or why the bytes presented are no stimulus. -/
def fetch (s : State) : Except DecodeError (Instr × State) :=
  match s.stream with
  | [] => .ok (freeTick s, s.nextInput)
  | b :: bs =>
    match decode (b :: bs) with
    | .ok (i, rest) => .ok (i, s.setStream rest)
    | .error e => .error e

/-- Puts the instruction whose lowest `nbits` bits are those of `w`, and whose other bits are 0, at the
head of the stimuli. -/
def presentWord (s : State) (nbits w : Nat) : State :=
  s.setStream (stimulusOfWord nbits w ++ s.stream)

end Sys2Proof.Machine
end

