-- ==== Sys2Proof/Machine/Step.lean ====
section
/-! DEFINITION. One step of the machine. -/

namespace Sys2Proof.Machine

/-- One step: under an admitted configuration the next operation runs (45_tick.md R136); a configuration
that breaks R4 is refused (60_exceptions.md R148), and so are bytes that are no stimulus. -/
def step (s : State) : Host.Outcome State Fault Refusal :=
  if s.cfg.admitted then
    match fetch s with
    | .ok (i, t) => exec i t
    | .error e => .refused (.badStimulus e)
  else .refused .configViolation

/-- The state in which the next step takes the instruction given as a number. -/
def State.withFetchWord (s : State) (nbits w : Nat) : State :=
  presentWord s nbits w

end Sys2Proof.Machine
end

