-- ==== Sys2Proof/WellFormed.lean ====
section
/-! DEFINITION. Which terms of `Instr` are operations the block can be given. -/

namespace Sys2Proof

/-- An APPLY operation is given a record as its decoder outputs it (30_encoding.md R65). -/
abbrev CarriesDecoderRecord (i : Instr) : Prop :=
  match i with
  | .applyLamp r _ => r.producible = true
  | .applyLock r _ => r.producible = true
  | .applyPark r _ => r.producible = true
  | .applySoc r _ => r.producible = true
  | _ => True

/-- The row FRAME_IGNORED stands for the headers that select no decoder (R66), an APPLY operation takes a
record that R65 allows, and the notation counts a tick's frames in 16 bits (log entry 5). Every other term is
well formed: the spec gives EXTRACT and the decoders a result on every operand. -/
abbrev WellFormed (i : Instr) : Prop :=
  match i with
  | .frameIgnored f => kindOfHeader (headerWord f.identifier f.length) = .none
  | .applyLamp r _ => r.producible = true
  | .applyLock r _ => r.producible = true
  | .applyPark r _ => r.producible = true
  | .applySoc r _ => r.producible = true
  | .tick _ frames _ => frames.length < 65536
  | _ => True

/-- The operands one build accepts: a tick is given at most `FRAME_BATCH_MAX` frames (45_tick.md R136). -/
abbrev FitsBatch (c : Config) (i : Instr) : Prop :=
  match i with
  | .tick _ frames _ => frames.length ≤ c.frameBatchMax
  | _ => True

end Sys2Proof
end

