-- ==== Sys2Proof/Safety.lean ====
section
/-! DEFINITION. The terms statements are made in: the invariants of the records, what a tick leaves
settled, a sequence of operations, and two runs whose timers differ by a constant. -/

namespace Sys2Proof.Machine

/-! ### Invariants -/

/-- A signal that was never seen has its reset values (10_state.md R19 (f)). -/
abbrev UnseenIsEmpty (slot : Slot) (v : Byte) : Prop :=
  slot.seen = false → slot.cur = v ∧ slot.prev = v ∧ slot.ts = 0

/-- The invariants (a) to (f) of 10_state.md R19; clause (e), which the rule gives for the end of a tick,
holds after every operation of the model. -/
abbrev VehicleInv (v : VehicleState) : Prop :=
  (v.unlocked = true ↔ v.lock.cur = 2 ∨ v.lock.cur = 3) ∧
  (v.parked = true ↔ v.park.cur = 1) ∧
  (v.lampRequestedOn = true ↔ v.lamp.cur = 1 ∨ v.lamp.cur = 2) ∧
  (v.override = false → v.overrideLevel = false) ∧
  (v.override = true → v.unlocked = true) ∧
  UnseenIsEmpty v.lamp 0 ∧ UnseenIsEmpty v.lock 0 ∧ UnseenIsEmpty v.park 1 ∧ UnseenIsEmpty v.soc 0

/-- The ranges of the stored values (R19 (g)). -/
abbrev VehicleRange (v : VehicleState) : Prop :=
  (v.lamp.cur ≤ 3 ∧ v.lamp.prev ≤ 3) ∧ (v.lock.cur ≤ 3 ∧ v.lock.prev ≤ 3) ∧
  (v.park.cur ≤ 15 ∧ v.park.prev ≤ 15) ∧ (v.soc.cur ≤ 127 ∧ v.soc.prev ≤ 127)

/-- The invariants (a) and (b) of 10_state.md R27. -/
abbrev ButtonInv (b : ButtonState) : Prop :=
  (b.deb = false → b.holdReported = false ∧ b.holdDuration = 0 ∧ b.held = false) ∧
  (b.deb = true → b.hasPress = true)

/-- The pins hold the levels of the previous-tick copies (R30, R31; both are written by APPLY_PINS only). -/
abbrev PinInv (s : State) : Prop :=
  s.pin.light = s.os.prevLight ∧ s.pin.latch = s.os.prevLatch

/-- What every step keeps. -/
abbrev State.Inv (s : State) : Prop :=
  VehicleInv s.vs ∧ VehicleRange s.vs ∧ ButtonInv s.bs ∧ PinInv s

/-- All four edge flags are clear (45_tick.md R139). -/
abbrev FlagsClear (b : ButtonState) : Prop :=
  b.pressed = false ∧ b.released = false ∧ b.held = false ∧ b.doubleClick = false

/-! ### Sequences of operations -/

/-- Runs operations one after the other, stopping where one gives no next state. -/
def runOps : List Instr → State → Host.Outcome State Fault Refusal
  | [], s => .next s
  | i :: is, s =>
    match exec i s with
    | .next t => runOps is t
    | .fault r => .fault r
    | .refused r => .refused r

/-- The port calls that one frame of a tick stands for (45_tick.md R137, phase 1). -/
def frameOps (now : Time) (f : Frame) : List Instr :=
  match classify f.identifier f.length with
  | .lamp => [.applyLamp (decodeSignal .lamp f) now]
  | .lock => [.applyLock (decodeSignal .lock f) now]
  | .park => [.applyPark (decodeSignal .park f) now]
  | .soc => [.applySoc (decodeSignal .soc f) now]
  | .none => [.frameIgnored f]

/-- Applied in list order, the frames bring no event that ends an override: no locked lock value (R96), and
no lamp record that takes the lamp request from on to off (R95). `requested` is the lamp request before the
first of them. -/
def bringsNoClear (requested : Bool) : List Frame → Bool
  | [] => true
  | f :: fs =>
    match dispatchFrame f with
    | .lamp r => !(requested && !lampOn r.value) && bringsNoClear (lampOn r.value) fs
    | .lock r => lockOpen r.value && bringsNoClear requested fs
    | .park _ => bringsNoClear requested fs
    | .soc _ => bringsNoClear requested fs
    | .none => bringsNoClear requested fs

/-- The two states hold the same block: the same `VS`, `BS`, `OS` and `PIN`. -/
abbrev SameBlock (s t : State) : Prop :=
  s.vs = t.vs ∧ s.bs = t.bs ∧ s.os = t.os ∧ s.pin = t.pin

/-! ### Two runs whose timers differ by a constant (70_reset_and_hazards.md R165) -/

/-- The slot `b` is the slot `a` with a written timestamp later by `k`, and one not yet written still 0. -/
abbrev ShiftedSlot (k : Time) (a b : Slot) : Prop :=
  b.cur = a.cur ∧ b.prev = a.prev ∧ b.seen = a.seen ∧
  (a.seen = true → b.ts = a.ts + k) ∧ (a.seen = false → a.ts = 0 ∧ b.ts = 0)

abbrev ShiftedVehicle (k : Time) (a b : VehicleState) : Prop :=
  ShiftedSlot k a.lamp b.lamp ∧ ShiftedSlot k a.lock b.lock ∧
  ShiftedSlot k a.park b.park ∧ ShiftedSlot k a.soc b.soc ∧
  b.unlocked = a.unlocked ∧ b.parked = a.parked ∧ b.lampRequestedOn = a.lampRequestedOn ∧
  b.systemReady = a.systemReady ∧ b.override = a.override ∧ b.overrideLevel = a.overrideLevel

/-- `lastChange` is unwritten as long as the raw level never changed, `lastPress` as long as there was no
press; `prevPress` holds the unwritten 0 until the second press (log entry 15). -/
abbrev ShiftedButton (k : Time) (a b : ButtonState) : Prop :=
  b.raw = a.raw ∧ b.deb = a.deb ∧ b.prevDeb = a.prevDeb ∧ b.pressed = a.pressed ∧
  b.released = a.released ∧ b.held = a.held ∧ b.doubleClick = a.doubleClick ∧
  b.holdReported = a.holdReported ∧ b.pressCount = a.pressCount ∧ b.hasPress = a.hasPress ∧
  b.holdDuration = a.holdDuration ∧
  (b.lastChange = a.lastChange + k ∨ a.raw = a.deb ∧ a.lastChange = 0 ∧ b.lastChange = 0) ∧
  (a.hasPress = true → b.lastPress = a.lastPress + k) ∧
  (a.hasPress = false → a.deb = false ∧ a.lastPress = 0 ∧ b.lastPress = 0) ∧
  (b.prevPress = a.prevPress + k ∨ a.prevPress = 0 ∧ b.prevPress = 0)

abbrev ShiftedOutput (k : Time) (a b : OutputState) : Prop :=
  b.light = a.light ∧ b.latch = a.latch ∧ b.prevLight = a.prevLight ∧ b.prevLatch = a.prevLatch ∧
  (b.latchStart = a.latchStart + k ∨ a.latch = false ∧ a.latchStart = 0 ∧ b.latchStart = 0)

/-- `t` is `s` with every timestamp written since reset later by `k`. -/
abbrev ShiftedBy (k : Time) (s t : State) : Prop :=
  ShiftedVehicle k s.vs t.vs ∧ ShiftedButton k s.bs t.bs ∧ ShiftedOutput k s.os t.os ∧
  t.pin = s.pin ∧ t.cfg = s.cfg

end Sys2Proof.Machine
end

