-- ==== Sys2Proof/Certificates/Slice0/Obligations.lean ====
section
/-! DEFINITION. The statements for the provers, in the order of OBLIGATIONS.json. What an operation returns
or outputs is read from the field `out` of the next state (the model's convention, log entry 6). -/

open Sys2Proof Sys2Proof.Machine

/-! ### Encoding -/

/-- The bytes of every well-formed operation decode to it again, whatever follows them. The frames' header
is the spec's (R56, R57); the rest of the notation is the model's own (DESIGN CHOICE, log entry 5). -/
def Obligations.DecodeEncodeRoundTrip : Prop :=
  ∀ (i : Instr) (rest : List Byte), WellFormed i → decode (encode i ++ rest) = .ok (i, rest)

/-- R57: a header is accepted iff the length is 8 and the identifier is one of the four, that is iff `H` is
one of four words, every bit compared; at most one row matches; a frame whose header is not accepted changes
nothing. -/
def Obligations.HeaderRowsAcceptFourWords : Prop :=
  ∀ (identifier : BitVec 32) (length : BitVec 4),
    (kindOfHeader (headerWord identifier length) ≠ .none ↔
      length = 8 ∧ (identifier = 0x3C3 ∨ identifier = 0x331 ∨ identifier = 0x176 ∨ identifier = 0x43C)) ∧
    (kindOfHeader (headerWord identifier length) ≠ .none ↔
      headerWord identifier length ∈ [0x8000003C3, 0x800000331, 0x800000176, 0x80000043C]) ∧
    (frameRows.filter (fun r => r.selectedBy (headerWord identifier length))).length ≤ 1 ∧
    (∀ r ∈ frameRows, r.mask = BitVec.allOnes 36) ∧
    (kindOfHeader (headerWord identifier length) = .none → ∀ (data : Buffer) (arrivalTime : Time) (s : State),
      exec (frameInstr ⟨identifier, length, data, arrivalTime⟩) s = .next s)

/-- The table's frame rows (matched on `H`, R57) and CLASSIFY (tests on the two fields, R83) select the
same decoder. -/
def Obligations.ClassifyAgreesWithHeaderRows : Prop :=
  ∀ (identifier : BitVec 32) (length : BitVec 4) (s : State),
    exec (.classify identifier length) s =
      .next { s with out := .kind (kindOfHeader (headerWord identifier length)) }

/-- Every frame decodes: to its decoder's row when its header is accepted, to FRAME_IGNORED when not
(R57, R66). -/
def Obligations.EveryFrameDecodes : Prop :=
  ∀ (f : Frame) (rest : List Byte), ∃ i, decode (putFrame f ++ rest) = .ok (i, rest) ∧ WellFormed i ∧
    (f.length = 8 ∧ f.identifier = 0x3C3 → i = .decodeLamp f) ∧
    (f.length = 8 ∧ f.identifier = 0x331 → i = .decodeLock f) ∧
    (f.length = 8 ∧ f.identifier = 0x176 → i = .decodePark f) ∧
    (f.length = 8 ∧ f.identifier = 0x43C → i = .decodeSoc f) ∧
    (¬(f.length = 8 ∧ (f.identifier = 0x3C3 ∨ f.identifier = 0x331 ∨ f.identifier = 0x176 ∨
      f.identifier = 0x43C)) → i = .frameIgnored f)

/-- Words written out from the table decode to their rows (sanity). -/
def Obligations.TableWordsDecodeToTheirRows : Prop :=
  decodeTableWord 40 0x8000003C3 = some (.decodeLamp ⟨0x3C3, 8, ⟨0, 0, 0, 0, 0, 0, 0, 0⟩, 0⟩) ∧
  decodeTableWord 40 0x800000331 = some (.decodeLock ⟨0x331, 8, ⟨0, 0, 0, 0, 0, 0, 0, 0⟩, 0⟩) ∧
  decodeTableWord 40 0x800000176 = some (.decodePark ⟨0x176, 8, ⟨0, 0, 0, 0, 0, 0, 0, 0⟩, 0⟩) ∧
  decodeTableWord 40 0x80000043C = some (.decodeSoc ⟨0x43C, 8, ⟨0, 0, 0, 0, 0, 0, 0, 0⟩, 0⟩) ∧
  decodeTableWord 40 0x7000003C3 = some (.frameIgnored ⟨0x3C3, 7, ⟨0, 0, 0, 0, 0, 0, 0, 0⟩, 0⟩)

/-! ### The step -/

/-- Under an admitted configuration (log entry 1) a step runs the operation whose bytes stand at the head
of the stream, on the state with those bytes taken (the stream is the model's own, DESIGN CHOICE, log
entry 4). -/
def Obligations.StepRunsTheDecodedStimulus : Prop :=
  ∀ (s : State) (i : Instr) (rest : List Byte),
    s.cfg.doubleClickWindow < s.cfg.holdThreshold → 1 ≤ s.cfg.frameBatchMax →
    s.stream ≠ [] → decode s.stream = .ok (i, rest) →
    step s = exec i { s with stream := rest }

/-- Under an admitted configuration (log entry 1), with nothing presented a step is one loop tick on the
next free inputs (DESIGN CHOICE, log entry 3). -/
def Obligations.StepWithNothingPresentedIsALoopTick : Prop :=
  ∀ (s : State),
    s.cfg.doubleClickWindow < s.cfg.holdThreshold → 1 ≤ s.cfg.frameBatchMax → s.stream = [] →
    step s =
      exec (.tick (Config.inputNow s.inputIndex) (Config.inputFrames s.inputIndex)
        (Config.inputRaw s.inputIndex)) { s with inputIndex := s.inputIndex + 1 }

/-- The model refuses a configuration exactly when it breaks `DOUBLE_CLICK_WINDOW < HOLD_THRESHOLD` (R4,
R148) or has no room for a frame (R138); that a step does it is the model's choice (log entry 1). -/
def Obligations.StepRefusesExactlyTheViolatedConfigurations : Prop :=
  ∀ (s : State),
    step s = .refused .configViolation ↔
      ¬(s.cfg.doubleClickWindow < s.cfg.holdThreshold ∧ 1 ≤ s.cfg.frameBatchMax)

/-- R136, R143: under an admitted configuration (log entry 1) a step gives a next state, under the same
configuration, when nothing is presented (log entry 3) or when the bytes presented decode to a stimulus
(log entry 4). Other bytes the model refuses. -/
def Obligations.StepAnswersOnNothingOrAStimulus : Prop :=
  ∀ (s : State),
    s.cfg.doubleClickWindow < s.cfg.holdThreshold → 1 ≤ s.cfg.frameBatchMax →
    (s.stream = [] ∨ ∃ i rest, decode s.stream = .ok (i, rest)) →
    ∃ t, step s = .next t ∧ t.cfg = s.cfg

/-- R143: every operation gives a next state, on every operand and in every state; none writes the
configuration (R3), the stimuli still to come or the count of free inputs (log entries 1, 3, 4). -/
def Obligations.EveryOperationCompletesUnderTheSameConfiguration : Prop :=
  ∀ (i : Instr) (s : State), ∃ t, exec i s = .next t ∧
    t.cfg = s.cfg ∧ t.stream = s.stream ∧ t.inputIndex = s.inputIndex

/-! ### The Bit Field Extractor -/

/-- R42, R43, R76: bit `i` of EXTRACT's value is bit `position - width + 1 + i` of the frame, which is bit
`q mod 8` of byte `q div 8` (the spec's own inferences from R41 and R77); the bits at and above `width`, and
every bit out of range, are 0. Nothing else changes. -/
def Obligations.ExtractReturnsTheBitsOfTheField : Prop :=
  ∀ (buf : Buffer) (position width : Byte) (s : State), ∃ v,
    exec (.extract buf position width) s = .next { s with out := .value v } ∧
    ∀ i < 64, v.getLsbD i =
      (decide (position.toNat < 64 ∧ width.toNat ≤ position.toNat + 1 ∧ i < width.toNat) &&
        (buf.byte ((position.toNat + 1 - width.toNat + i) / 8)).getLsbD
          ((position.toNat + 1 - width.toNat + i) % 8))

/-- R41, R77: the value is the little-endian sum of the bytes, shifted right by `position - width + 1` and
cut to `width` bits, over the naturals (R7); 0 out of range (R76). -/
def Obligations.ExtractIsShiftAndMaskOfTheLittleEndianSum : Prop :=
  ∀ (buf : Buffer) (position width : Byte) (s : State), ∃ v,
    exec (.extract buf position width) s = .next { s with out := .value v } ∧
    v.toNat =
      if position.toNat ≤ 63 ∧ width.toNat ≤ position.toNat + 1 then
        (buf.b0.toNat + buf.b1.toNat * 2 ^ 8 + buf.b2.toNat * 2 ^ 16 + buf.b3.toNat * 2 ^ 24 +
          buf.b4.toNat * 2 ^ 32 + buf.b5.toNat * 2 ^ 40 + buf.b6.toNat * 2 ^ 48 +
          buf.b7.toNat * 2 ^ 56) / 2 ^ (position.toNat + 1 - width.toNat) % 2 ^ width.toNat
      else 0

/-- R78: an in-range value is below `2^width`, an out-of-range one is 0, and the low 8 bits a decoder keeps
lose nothing. -/
def Obligations.ExtractResultIsBounded : Prop :=
  ∀ (buf : Buffer) (position width : Byte) (s : State), ∃ v,
    exec (.extract buf position width) s = .next { s with out := .value v } ∧
    v.toNat < 2 ^ width.toNat ∧
    (¬(position.toNat ≤ 63 ∧ width.toNat ≤ position.toNat + 1) → v = 0) ∧
    (∀ k : Signal, (descriptor k).width.toNat ≤ 7) ∧
    (width.toNat ≤ 7 → (v.setWidth 8).toNat = v.toNat)

/-- R79: the corner cases (a) to (f) and (i), which the spec marks as its own inference from R76 and R77. -/
def Obligations.ExtractCornerCases : Prop :=
  ∀ (buf : Buffer) (position width : Byte) (s : State), ∃ v,
    exec (.extract buf position width) s = .next { s with out := .value v } ∧
    (width.toNat = 0 → v = 0) ∧
    (position.toNat = 63 → width.toNat = 64 → v = memRead buf) ∧
    (65 ≤ width.toNat → v = 0) ∧
    (64 ≤ position.toNat → v = 0) ∧
    (position.toNat < 64 → width.toNat = position.toNat + 1 →
      v.toNat = (memRead buf).toNat % 2 ^ width.toNat) ∧
    (width.toNat = position.toNat + 2 → v = 0) ∧
    (position.toNat < 64 → width.toNat = 1 →
      v.toNat = ((memRead buf).getLsbD position.toNat).toNat)

/-- R82: what PACK writes EXTRACT reads back, cut to the width, and a field that does not meet it is read as
before (the spec's own inference). PACK is the spec's test helper (R81), no operation of the block. -/
def Obligations.PackThenExtractRoundTrip : Prop :=
  ∀ (buf : Buffer) (position width : Byte) (v : Nat) (s : State),
    position.toNat ≤ 63 → 1 ≤ width.toNat → width.toNat ≤ position.toNat + 1 →
    exec (.extract (pack buf position width v) position width) s =
      .next { s with out := .value (BitVec.ofNat 64 (v % 2 ^ width.toNat)) } ∧
    ∀ (p2 w2 : Byte), p2.toNat ≤ 63 → 1 ≤ w2.toNat → w2.toNat ≤ p2.toNat + 1 →
      (p2.toNat < position.toNat + 1 - width.toNat ∨ position.toNat < p2.toNat + 1 - w2.toNat) →
      exec (.extract (pack buf position width v) p2 w2) s = exec (.extract buf p2 w2) s

/-! ### The header validator and the decoders -/

/-- R83: NONE unless the length is 8, else the kind of the identifier, compared on all 32 bits; only the
response changes. -/
def Obligations.ClassifyResult : Prop :=
  ∀ (identifier : BitVec 32) (length : BitVec 4) (s : State),
    exec (.classify identifier length) s = .next { s with out := .kind (
      if length ≠ 8 then .none
      else if identifier = 0x000003C3 then .lamp
      else if identifier = 0x00000331 then .lock
      else if identifier = 0x00000176 then .park
      else if identifier = 0x0000043C then .soc
      else .none) }

/-- R85: the record is valid and holds bits 4 and 3 of byte 1 when identifier and length match, else it is
the all-zero invalid record; nothing else changes. -/
def Obligations.DecodeLampResult : Prop :=
  ∀ (f : Frame) (s : State),
    exec (.decodeLamp f) s = .next { s with out := .record .lamp (
      if f.identifier = 0x000003C3 ∧ f.length = 8 then ⟨true, (f.data.b1 >>> 3) &&& 0x03⟩
      else ⟨false, 0⟩) }

/-- R86: the record is valid and holds bits 3 and 2 of byte 4 when identifier and length match, else it is
the all-zero invalid record; nothing else changes. -/
def Obligations.DecodeLockResult : Prop :=
  ∀ (f : Frame) (s : State),
    exec (.decodeLock f) s = .next { s with out := .record .lock (
      if f.identifier = 0x00000331 ∧ f.length = 8 then ⟨true, (f.data.b4 >>> 2) &&& 0x03⟩
      else ⟨false, 0⟩) }

/-- R87: the record is valid and holds bits 2 to 0 of byte 4 above bit 7 of byte 3 when identifier and length
match, else it is the all-zero invalid record; nothing else changes. -/
def Obligations.DecodeParkResult : Prop :=
  ∀ (f : Frame) (s : State),
    exec (.decodePark f) s = .next { s with out := .record .park (
      if f.identifier = 0x00000176 ∧ f.length = 8 then
        ⟨true, ((f.data.b4 &&& 0x07) <<< 1) ||| (f.data.b3 >>> 7)⟩
      else ⟨false, 0⟩) }

/-- R88: the record is valid and holds bits 4 to 0 of byte 3 above bits 7 and 6 of byte 2 when identifier
and length match, values above 100 unchanged (the spec's D24), else it is the all-zero invalid record;
nothing else changes. -/
def Obligations.DecodeSocResult : Prop :=
  ∀ (f : Frame) (s : State),
    exec (.decodeSoc f) s = .next { s with out := .record .soc (
      if f.identifier = 0x0000043C ∧ f.length = 8 then
        ⟨true, ((f.data.b3 &&& 0x1F) <<< 2) ||| (f.data.b2 >>> 6)⟩
      else ⟨false, 0⟩) }

/-- R91: DECODE_FRAME gives the record of the decoder whose identifier the frame has, which is valid, and
no record for any other frame. -/
def Obligations.DecodeFrameResult : Prop :=
  ∀ (f : Frame) (s : State),
    exec (.decodeFrame f) s = .next { s with out := .decoded (
      if f.length ≠ 8 then .none
      else if f.identifier = 0x3C3 then .lamp ⟨true, (f.data.b1 >>> 3) &&& 0x03⟩
      else if f.identifier = 0x331 then .lock ⟨true, (f.data.b4 >>> 2) &&& 0x03⟩
      else if f.identifier = 0x176 then
        .park ⟨true, ((f.data.b4 &&& 0x07) <<< 1) ||| (f.data.b3 >>> 7)⟩
      else if f.identifier = 0x43C then
        .soc ⟨true, ((f.data.b3 &&& 0x1F) <<< 2) ||| (f.data.b2 >>> 6)⟩
      else .none) }

/-- R91 (the sentence the spec marks as its own inference): applying the records of all four decoders
gives the same block as applying the one record of the dispatch. Each of the four records is one that R65
allows, and so an operand that an APPLY operation admits (log entry 13). -/
def Obligations.AllFourDecodersEqualTheDispatch : Prop :=
  ∀ (f : Frame) (now : Time) (s : State),
    (∀ k : Signal, (decodeSignal k f).producible = true) ∧
    ∃ t u,
      runOps [.applyLamp (decodeSignal .lamp f) now, .applyLock (decodeSignal .lock f) now,
        .applyPark (decodeSignal .park f) now, .applySoc (decodeSignal .soc f) now] s = .next t ∧
      runOps (frameOps now f) s = .next u ∧ SameBlock t u

/-- R66: FRAME_IGNORED changes nothing at all. -/
def Obligations.IgnoredFrameChangesNothing : Prop :=
  ∀ (f : Frame) (s : State), exec (.frameIgnored f) s = .next s

/-- R66, R138, R144, R145: within the batch bound, a tick with a frame of a wrong identifier or length is
the tick without it. -/
def Obligations.TickIgnoresUnacceptedFrames : Prop :=
  ∀ (s : State) (now : Time) (fs gs : List Frame) (f : Frame) (rawSample : Bool),
    ¬(f.length = 8 ∧ (f.identifier = 0x3C3 ∨ f.identifier = 0x331 ∨ f.identifier = 0x176 ∨
      f.identifier = 0x43C)) →
    (fs ++ f :: gs).length ≤ s.cfg.frameBatchMax →
    exec (.tick now (fs ++ f :: gs) rawSample) s = exec (.tick now (fs ++ gs) rawSample) s

/-! ### The Vehicle State Tracker -/

/-- R94, R95: the lamp slot shifts and stores, `lampRequestedOn` is 1 for the values 1 and 2, and its
1-to-0 edge clears the override; an invalid record changes nothing (R102); nothing else changes. -/
def Obligations.ApplyLampResult : Prop :=
  ∀ (r : LampRecord) (now : Time) (s : State),
    let on := r.value == 1 || r.value == 2
    let edge := s.vs.lampRequestedOn && !on
    exec (.applyLamp r now) s = .next { s with
      vs := if r.valid = false then s.vs else { s.vs with
        lamp := ⟨r.value, s.vs.lamp.cur, now, true⟩
        lampRequestedOn := on
        override := s.vs.override && !edge
        overrideLevel := s.vs.overrideLevel && !edge }
      out := .none }

/-- R96: the lock slot shifts and stores, `unlocked` is 1 for the values 2 and 3, and every locked value
clears the override; an invalid record changes nothing (R102); nothing else changes. -/
def Obligations.ApplyLockResult : Prop :=
  ∀ (r : LockRecord) (now : Time) (s : State),
    let on := r.value == 2 || r.value == 3
    exec (.applyLock r now) s = .next { s with
      vs := if r.valid = false then s.vs else { s.vs with
        lock := ⟨r.value, s.vs.lock.cur, now, true⟩
        unlocked := on
        override := s.vs.override && on
        overrideLevel := s.vs.overrideLevel && on }
      out := .none }

/-- R97: the park slot shifts and stores and `parked` is 1 for the value 1 only; an invalid record changes
nothing (R102); nothing else changes. -/
def Obligations.ApplyParkResult : Prop :=
  ∀ (r : ParkRecord) (now : Time) (s : State),
    exec (.applyPark r now) s = .next { s with
      vs := if r.valid = false then s.vs else { s.vs with
        park := ⟨r.value, s.vs.park.cur, now, true⟩
        parked := r.value == 1 }
      out := .none }

/-- R98: the charge slot shifts and stores and nothing more; an invalid record changes nothing (R102). -/
def Obligations.ApplySocResult : Prop :=
  ∀ (r : SocRecord) (now : Time) (s : State),
    exec (.applySoc r now) s = .next { s with
      vs := if r.valid = false then s.vs else { s.vs with
        soc := ⟨r.value, s.vs.soc.cur, now, true⟩ }
      out := .none }

/-- R99, R100: `systemReady` is 1 iff some signal has been seen and its age, modulo `2^32`, is below the
readiness window; nothing else changes. -/
def Obligations.ReadinessIsTheOrOfFreshness : Prop :=
  ∀ (now : Time) (s : State), ∃ r,
    exec (.recomputeReadiness now) s = .next { s with vs := { s.vs with systemReady := r }, out := .none } ∧
    (r = true ↔ ∃ slot ∈ [s.vs.lamp, s.vs.lock, s.vs.park, s.vs.soc],
      slot.seen = true ∧
      (now.toNat + 2 ^ 32 - slot.ts.toNat) % 2 ^ 32 < s.cfg.readinessWindow.toNat)

/-- R101: CLEAR_OVERRIDE clears the flag and the level and nothing else, and doing it twice is doing it
once. -/
def Obligations.ClearOverrideResult : Prop :=
  ∀ (s : State),
    exec .clearOverride s = .next { s with
      vs := { s.vs with override := false, overrideLevel := false }, out := .none } ∧
    runOps [.clearOverride, .clearOverride] s = exec .clearOverride s

/-! ### The Button State Machine -/

/-- R108, R109, R110, R112: the press edge. The raw level, pressed, has differed from the debounced level
for the debounce window: everything BUTTON_TICK then writes, and nothing else changes. -/
def Obligations.ButtonTickPressEdge : Prop :=
  ∀ (now : Time) (s : State),
    s.cfg.doubleClickWindow < s.cfg.holdThreshold → s.bs.deb = false →
    let since := if s.bs.raw = true then s.bs.lastChange else now
    let t := now - s.bs.lastPress
    s.cfg.debounceWindow ≤ now - since →
    exec (.buttonTick true now) s = .next { s with
      bs := { s.bs with
        raw := true
        deb := true
        prevDeb := false
        pressed := true
        doubleClick := s.bs.doubleClick || (s.bs.hasPress && decide (s.cfg.debounceWindow < t) &&
          decide (t ≤ s.cfg.doubleClickWindow))
        lastChange := since
        lastPress := now
        prevPress := s.bs.lastPress
        pressCount := s.bs.pressCount + 1
        hasPress := true
        holdDuration := 0 }
      out := .none }

/-- R111, with the sampling of R106 and R107: the release edge. The raw level, released, has differed from
the debounced level for the debounce window: both levels go to released, `released` is set, the hold state
is cleared, and neither the press bookkeeping nor `pressed` nor `doubleClick` changes. -/
def Obligations.ButtonTickReleaseEdge : Prop :=
  ∀ (now : Time) (s : State),
    s.bs.deb = true →
    let since := if s.bs.raw = false then s.bs.lastChange else now
    s.cfg.debounceWindow ≤ now - since →
    exec (.buttonTick false now) s = .next { s with
      bs := { s.bs with
        raw := false
        deb := false
        prevDeb := true
        released := true
        held := false
        holdReported := false
        lastChange := since
        holdDuration := 0 }
      out := .none }

/-- R106, R107, R112: no edge, because the sample equals the debounced level or the raw level has not been
stable for the debounce window. The debounced level stays, and while it is pressed the hold duration runs
and `held` is set once, at the threshold. -/
def Obligations.ButtonTickWithoutAnEdge : Prop :=
  ∀ (rawSample : Bool) (now : Time) (s : State),
    let since := if s.bs.raw = rawSample then s.bs.lastChange else now
    let fire := s.bs.deb && !s.bs.holdReported && decide (s.cfg.holdThreshold ≤ now - s.bs.lastPress)
    (rawSample = s.bs.deb ∨ now - since < s.cfg.debounceWindow) →
    exec (.buttonTick rawSample now) s = .next { s with
      bs := { s.bs with
        raw := rawSample
        prevDeb := s.bs.deb
        lastChange := since
        holdDuration := if s.bs.deb then now - s.bs.lastPress else s.bs.holdDuration
        held := s.bs.held || fire
        holdReported := s.bs.holdReported || fire }
      out := .none }

/-- R120: BUTTON_TICK reads nothing of `VS` or `OS`, and writes nothing but `BS`. -/
def Obligations.ButtonTickIsIndependentOfTheVehicle : Prop :=
  ∀ (rawSample : Bool) (now : Time) (s u : State), s.bs = u.bs → s.cfg = u.cfg →
    ∃ b, exec (.buttonTick rawSample now) s = .next { s with bs := b, out := .none } ∧
      exec (.buttonTick rawSample now) u = .next { u with bs := b, out := .none }

/-- R113: `pressed` is returned and cleared, and nothing else changes. -/
def Obligations.ReadPressedReturnsAndClears : Prop :=
  ∀ (s : State), exec .readPressed s =
    .next { s with bs := { s.bs with pressed := false }, out := .bit s.bs.pressed }

/-- R114: `released` is returned and cleared, and nothing else changes. -/
def Obligations.ReadReleasedReturnsAndClears : Prop :=
  ∀ (s : State), exec .readReleased s =
    .next { s with bs := { s.bs with released := false }, out := .bit s.bs.released }

/-- R115: `held` is returned and cleared; nothing else changes, `holdReported` too. -/
def Obligations.ReadHeldReturnsAndClears : Prop :=
  ∀ (s : State), exec .readHeld s =
    .next { s with bs := { s.bs with held := false }, out := .bit s.bs.held }

/-- R116: `doubleClick` is returned and cleared, and nothing else changes. -/
def Obligations.ReadDoubleClickReturnsAndClears : Prop :=
  ∀ (s : State), exec .readDoubleClick s =
    .next { s with bs := { s.bs with doubleClick := false }, out := .bit s.bs.doubleClick }

/-- R112, R115: once the hold of a press has been reported and read, a BUTTON_TICK does not set it again,
and the press stays reported until the release edge. -/
def Obligations.HoldIsReportedOncePerPress : Prop :=
  ∀ (rawSample : Bool) (now : Time) (s : State), s.bs.holdReported = true → s.bs.held = false →
    ∃ t, exec (.buttonTick rawSample now) s = .next t ∧ t.bs.held = false ∧
      (t.bs.deb = true → t.bs.holdReported = true)

/-- R118 (a), the spec's own inference: a tick that starts with the flags clear, as every tick leaves them
(R139), never reads a hold event and a double-click event together. -/
def Obligations.HoldAndDoubleClickNeverFallInOneTick : Prop :=
  ∀ (now : Time) (frames : List Frame) (rawSample : Bool) (s : State),
    s.cfg.doubleClickWindow < s.cfg.holdThreshold → ButtonInv s.bs → FlagsClear s.bs →
    ∃ t es p r h dc, exec (.tick now frames rawSample) s = .next t ∧ t.out = .tick es p r h dc ∧
      ¬(h = true ∧ dc = true)

/-! ### The Output Decision Logic -/

/-- R122 to R127: the override and the light. Everything else OUTPUT_TICK writes is in the latch, stated by
the next one. -/
def Obligations.OutputTickOverrideAndLight : Prop :=
  ∀ (h dc : Bool) (now : Time) (s : State),
    let auto := s.vs.lampRequestedOn && s.vs.systemReady
    let ovr := s.vs.unlocked && (s.vs.override || dc)
    let lvl := s.vs.unlocked &&
      (if dc then (if s.vs.override then !s.vs.overrideLevel else !auto) else s.vs.overrideLevel)
    ∃ latch latchStart, exec (.outputTick h dc now) s = .next { s with
      vs := { s.vs with override := ovr, overrideLevel := lvl }
      os := { s.os with
        light := if ovr then lvl else auto
        latch := latch
        latchStart := latchStart }
      out := .none }

/-- R129 to R132: the latch is triggered by a hold edge through the gate, runs for its duration whatever
the gate does, and a hold edge during the pulse is lost. -/
def Obligations.OutputTickLatch : Prop :=
  ∀ (h dc : Bool) (now : Time) (s : State),
    let fire := h && s.vs.systemReady && s.vs.parked && s.vs.unlocked && !s.os.latch
    ∃ vs light, exec (.outputTick h dc now) s = .next { s with
      vs := vs
      os := { s.os with
        light := light
        latch := if s.os.latch then decide (now - s.os.latchStart < s.cfg.latchPulseDuration) else fire
        latchStart := if fire then now else s.os.latchStart }
      out := .none }

/-- R126: while locked, a double-click event changes nothing that its absence would not. -/
def Obligations.DoubleClickWhileLockedIsIgnored : Prop :=
  ∀ (h : Bool) (now : Time) (s : State), s.vs.unlocked = false →
    exec (.outputTick h true now) s = exec (.outputTick h false now) s ∧
    ∃ t, exec (.outputTick h true now) s = .next t ∧ t.vs.override = false

/-- R124, R128, R152: whatever operation turns the override on, it is an OUTPUT_TICK or a TICK that saw a
double-click, and the vehicle is unlocked. -/
def Obligations.OverrideStartsOnlyByAGatedDoubleClick : Prop :=
  ∀ (i : Instr) (s : State), ∃ t, exec i s = .next t ∧
    (s.vs.override = false → t.vs.override = true →
      t.vs.unlocked = true ∧
      ((∃ h now, i = .outputTick h true now) ∨
       ∃ now frames rawSample es p r h, i = .tick now frames rawSample ∧ t.out = .tick es p r h true))

/-- R127, R176: while no frame of the tick brings a locked value or a lamp-off edge (R95, R96), an
overridden light of an unlocked vehicle stays overridden, whatever readiness and lamp request become; its
level changes only by a double-click of this tick, which toggles it (R125). -/
def Obligations.OverriddenLightIgnoresReadinessAndRequest : Prop :=
  ∀ (now : Time) (frames : List Frame) (rawSample : Bool) (s : State),
    s.vs.unlocked = true → s.vs.override = true → bringsNoClear s.vs.lampRequestedOn frames = true →
    ∃ t es p r h dc, exec (.tick now frames rawSample) s = .next t ∧ t.out = .tick es p r h dc ∧
      t.vs.unlocked = true ∧ t.vs.override = true ∧
      t.vs.overrideLevel = (if dc then !s.vs.overrideLevel else s.vs.overrideLevel) ∧
      t.os.light = t.vs.overrideLevel

/-- R129, R152: whatever operation turns the latch on, it is an OUTPUT_TICK or a TICK that saw a hold edge,
and the vehicle is then ready, parked and unlocked. -/
def Obligations.LatchStartsOnlyThroughItsGate : Prop :=
  ∀ (i : Instr) (s : State), ∃ t, exec i s = .next t ∧
    (s.os.latch = false → t.os.latch = true →
      t.vs.systemReady = true ∧ t.vs.parked = true ∧ t.vs.unlocked = true ∧
      ∃ now, t.os.latchStart = now ∧
        ((∃ dc, i = .outputTick true dc now) ∨
         ∃ frames rawSample es p r dc, i = .tick now frames rawSample ∧ t.out = .tick es p r true dc))

/-- R130, R132: whatever operation ends a latch pulse, it is RESET, or an OUTPUT_TICK or a TICK at or past
the pulse's duration. -/
def Obligations.LatchEndsOnlyByItsTimeout : Prop :=
  ∀ (i : Instr) (s : State), ∃ t, exec i s = .next t ∧
    (s.os.latch = true → t.os.latch = false →
      i = .reset ∨
      ∃ now, ((∃ h dc, i = .outputTick h dc now) ∨ ∃ frames rawSample, i = .tick now frames rawSample) ∧
        s.cfg.latchPulseDuration ≤ now - s.os.latchStart)

/-- R134: the level-set calls only on change, the light's first, the previous-tick copies and the pins
following them. -/
def Obligations.ApplyPinsResult : Prop :=
  ∀ (s : State), exec .applyPins s = .next { s with
    os := { s.os with prevLight := s.os.light, prevLatch := s.os.latch }
    pin := ⟨if s.os.light ≠ s.os.prevLight then s.os.light else s.pin.light,
      if s.os.latch ≠ s.os.prevLatch then s.os.latch else s.pin.latch⟩
    out := .events ((if s.os.light ≠ s.os.prevLight then [.setLight s.os.light] else []) ++
      (if s.os.latch ≠ s.os.prevLatch then [.setLatch s.os.latch] else [])) }

/-- R31: only APPLY_PINS, the TICK that ends with it and RESET move a pin. -/
def Obligations.PinsMoveOnlyByApplyPins : Prop :=
  ∀ (i : Instr) (s : State), ∃ t, exec i s = .next t ∧
    (t.pin ≠ s.pin → i = .applyPins ∨ i = .reset ∨ ∃ now frames rawSample, i = .tick now frames rawSample)

/-! ### The tick -/

/-- R137: a tick within the batch bound is its phases run one after the other as port calls: the APPLY of
each frame that DECODE_FRAME gives a kind, in list order, RECOMPUTE_READINESS, BUTTON_TICK, the four flag
reads, OUTPUT_TICK on the values read, APPLY_PINS. The block it leaves and the events it outputs are
theirs. -/
def Obligations.TickIsItsPhases : Prop :=
  ∀ (now : Time) (frames : List Frame) (rawSample : Bool) (s : State),
    frames.length ≤ s.cfg.frameBatchMax →
    ∃ b u e t es,
      runOps ((frames.flatMap (frameOps now)) ++ [.recomputeReadiness now, .buttonTick rawSample now]) s =
        .next b ∧
      runOps [.readPressed, .readReleased, .readHeld, .readDoubleClick,
        .outputTick b.bs.held b.bs.doubleClick now] b = .next u ∧
      exec .applyPins u = .next e ∧ e.out = .events es ∧
      exec (.tick now frames rawSample) s = .next t ∧ SameBlock t e ∧
      t.out = .tick es b.bs.pressed b.bs.released b.bs.held b.bs.doubleClick

/-- R139: a tick reads and clears all four edge flags of its BUTTON_TICK, and changes nothing else of what
that left in `BS`. -/
def Obligations.TickReadsAndClearsTheFlags : Prop :=
  ∀ (now : Time) (frames : List Frame) (rawSample : Bool) (s : State), ∃ b t es,
    exec (.buttonTick rawSample now) s = .next { s with bs := b, out := .none } ∧
    exec (.tick now frames rawSample) s = .next t ∧
    t.bs = { b with pressed := false, released := false, held := false, doubleClick := false } ∧
    t.out = .tick es b.pressed b.released b.held b.doubleClick

/-- R134, and the last sentence of R31, the spec's own inference: after a tick the pins show the targets,
and its events are exactly the changes of the pins, the light's first. -/
def Obligations.TickSettlesThePins : Prop :=
  ∀ (now : Time) (frames : List Frame) (rawSample : Bool) (s : State), PinInv s →
    ∃ t p r h dc, exec (.tick now frames rawSample) s = .next t ∧
      t.pin.light = t.os.light ∧ t.os.light = t.os.prevLight ∧
      t.pin.latch = t.os.latch ∧ t.os.latch = t.os.prevLatch ∧
      t.out = .tick ((if t.pin.light = s.pin.light then [] else [.setLight t.pin.light]) ++
        (if t.pin.latch = s.pin.latch then [] else [.setLatch t.pin.latch])) p r h dc

/-- R123, and case 2 of R151, the spec's own inference: at the end of a tick that leaves the vehicle
locked there is no override, and the light is the automatic one. -/
def Obligations.LockedTickEndsAutomatic : Prop :=
  ∀ (now : Time) (frames : List Frame) (rawSample : Bool) (s : State), ∃ t,
    exec (.tick now frames rawSample) s = .next t ∧
    (t.vs.unlocked = false →
      t.vs.override = false ∧ t.vs.overrideLevel = false ∧
      t.os.light = (t.vs.lampRequestedOn && t.vs.systemReady))

/-- R122, R137, Scenario A: a frame that asks for the lamp turns the light on in its own tick, when the
readiness window is not 0 and there is no override: the vehicle is locked, or it is in Automatic and the
tick reads no double-click. -/
def Obligations.LampRequestLightsInItsOwnTick : Prop :=
  ∀ (now : Time) (f : Frame) (rawSample : Bool) (s : State),
    f.identifier = 0x3C3 → f.length = 8 →
    ((f.data.b1 >>> 3) &&& 3 = 1 ∨ (f.data.b1 >>> 3) &&& 3 = 2) →
    0 < s.cfg.readinessWindow → 1 ≤ s.cfg.frameBatchMax →
    ∃ t es p r h dc, exec (.tick now [f] rawSample) s = .next t ∧ t.out = .tick es p r h dc ∧
      (s.vs.unlocked = false ∨ s.vs.override = false ∧ dc = false → t.os.light = true)

/-! ### Invariants, reset and time -/

/-- R19 (a) to (g), R27 (a) and (b), R31, which the spec marks as its own inferences: the state after
reset meets the invariant. -/
def Obligations.ResetMeetsTheInvariant : Prop :=
  State.reset.Inv

/-- R19 (a) to (g), R27 (a) and (b), which the spec marks as its own inferences, and the pins (R31): every
step from a state that meets the invariant gives one that meets it. -/
def Obligations.EveryStepKeepsTheInvariant : Prop :=
  ∀ (s t : State), s.Inv → step s = .next t → t.Inv

/-- R19 and R27 (a), (b), the spec's own inferences, and the pins (R31): every operation keeps the ranges
of the stored values (R19 (g)), and the whole invariant, an APPLY operation being given a record as its
decoder outputs it (R65, log entry 13). -/
def Obligations.EveryOperationKeepsTheInvariant : Prop :=
  ∀ (i : Instr) (s : State), CarriesDecoderRecord i →
    ∃ t, exec i s = .next t ∧ (VehicleRange s.vs → VehicleRange t.vs) ∧ (s.Inv → t.Inv)

/-- R34: RESET writes the reset table, and the machine starts with it. -/
def Obligations.ResetWritesTheResetTable : Prop :=
  let vs : VehicleState :=
    { lamp := ⟨0, 0, 0, false⟩, lock := ⟨0, 0, 0, false⟩, park := ⟨1, 1, 0, false⟩, soc := ⟨0, 0, 0, false⟩
      unlocked := false, parked := true, lampRequestedOn := false, systemReady := false
      override := false, overrideLevel := false }
  let bs : ButtonState :=
    { raw := false, deb := false, prevDeb := false, pressed := false, released := false, held := false
      doubleClick := false, holdReported := false, lastChange := 0, lastPress := 0, prevPress := 0
      pressCount := 0, hasPress := false, holdDuration := 0 }
  let os : OutputState :=
    { light := false, latch := false, latchStart := 0, prevLight := false, prevLatch := false }
  let pin : PinState := { light := false, latch := false }
  (∀ (s : State), exec .reset s = .next { s with vs := vs, bs := bs, os := os, pin := pin, out := .none }) ∧
  State.reset.vs = vs ∧ State.reset.bs = bs ∧ State.reset.os = os ∧ State.reset.pin = pin

/-- R166, the spec's own inference: under empty input the reset state is a fixed point of TICK, whatever
`now` is, and no level-set call is made. -/
def Obligations.ResetStateIsFixedUnderEmptyInput : Prop :=
  ∀ (now : Time) (s : State),
    s.vs = VehicleState.reset → s.bs = ButtonState.reset → s.os = OutputState.reset →
    s.pin = PinState.reset →
    exec (.tick now [] false) s = .next { s with out := .tick [] false false false false }

/-- R165, the spec's own inference, with the exception of log entry 15 for `prevPress`: two runs from
reset whose timer values differ by a constant give the same events and flags in every tick, and states
that differ only in the timestamps written. The reset state is related to itself, and a tick keeps the
relation. -/
def Obligations.TickIsIndependentOfTheTimerOrigin : Prop :=
  (∀ k : Time, ShiftedBy k State.reset State.reset) ∧
  ∀ (k now : Time) (frames : List Frame) (rawSample : Bool) (s t : State), ShiftedBy k s t →
    ∃ s' t', exec (.tick now frames rawSample) s = .next s' ∧
      exec (.tick (now + k) frames rawSample) t = .next t' ∧
      ShiftedBy k s' t' ∧ s'.out = t'.out
end

