-- ==== Sys2Proof/Laws/Decode.lean ====
section
/-! SUPPORT. What each reader of an operand does with what its writer wrote, and how a frame and a port
call decode. -/

namespace Sys2Proof.Laws

/-- Joining the bytes of a 16-bit value gives it back. -/
theorem take16_put16 (x : BitVec 16) (r : List Byte) : take16 (put16 x ++ r) = .ok (x, r) := by
  simp only [put16, take16, List.cons_append, List.nil_append, Except.ok.injEq, Prod.mk.injEq, and_true]
  apply BitVec.eq_of_getLsbD_eq
  intro i hi
  simp only [BitVec.getLsbD_append, BitVec.getLsbD_extractLsb']
  by_cases h1 : i < 8
  · simp [h1]
  · simp [h1, show i - 8 < 8 by omega, show 8 + (i - 8) = i by omega]

/-- Joining the bytes of a 32-bit value gives it back. -/
theorem take32_put32 (x : BitVec 32) (r : List Byte) : take32 (put32 x ++ r) = .ok (x, r) := by
  simp only [put32, take32, List.cons_append, List.nil_append, Except.ok.injEq, Prod.mk.injEq, and_true]
  apply BitVec.eq_of_getLsbD_eq
  intro i hi
  simp only [BitVec.getLsbD_append, BitVec.getLsbD_extractLsb']
  by_cases h1 : i < 8
  · simp [h1]
  · by_cases h2 : i - 8 < 8
    · simp [h1, h2, show 8 + (i - 8) = i by omega]
    · by_cases h3 : i - 8 - 8 < 8
      · simp only [h1, h2, h3, decide_true, Bool.true_and, if_true, if_false,
          show 16 + (i - 8 - 8) = i by omega]
      · simp only [h1, h2, h3, show i - 8 - 8 - 8 < 8 by omega, decide_true, Bool.true_and,
          if_false, show 24 + (i - 8 - 8 - 8) = i by omega]

theorem takeBit_putBit (b : Bool) (r : List Byte) : takeBit (putBit b ++ r) = .ok (b, r) := by
  cases b <;> simp [takeBit, putBit]

theorem takeBuffer_putBuffer (b : Buffer) (r : List Byte) : takeBuffer (putBuffer b ++ r) = .ok (b, r) :=
  rfl

theorem takeRecord_putRecord {k : Signal} (x : Record k) (r : List Byte) (h : x.producible = true) :
    takeRecord k (putRecord x ++ r) = .ok (x, r) := by
  simp [takeRecord, putRecord, takeBit_putBit, takeByte, bind, Except.bind, h]

theorem takeHead_putHeader (x : BitVec 32) (l : BitVec 4) (r : List Byte) :
    takeHead (putHeader x l ++ r) = .ok ((x, l.setWidth 8), r) := by
  simp [takeHead, putHeader, take32_put32, takeByte, bind, Except.bind]

theorem takeHead_putPort (x : BitVec 32) (r : List Byte) :
    takeHead (putPort x ++ r) = .ok ((x, 0x10), r) := by
  simp [takeHead, putPort, take32_put32, takeByte, bind, Except.bind]

/-- A length leaves the class bits 0. -/
theorem length_class_zero (l : BitVec 4) : (l.setWidth 8).toNat < 16 := by
  simp only [BitVec.toNat_setWidth]
  omega

theorem takeFrameBody_put (f : Frame) (r : List Byte) :
    takeFrameBody f.identifier (f.length.setWidth 8) (putBuffer f.data ++ (put32 f.arrivalTime ++ r)) =
      .ok (f, r) := by
  simp [takeFrameBody, takeBuffer_putBuffer, take32_put32, bind, Except.bind]

theorem takeFrame_putFrame (f : Frame) (r : List Byte) : takeFrame (putFrame f ++ r) = .ok (f, r) := by
  simp only [takeFrame, putFrame, List.append_assoc, takeHead_putHeader, bind, Except.bind,
    length_class_zero, if_true, takeFrameBody_put]

theorem takeFrames_putFrames (fs : List Frame) (r : List Byte) :
    takeFrames fs.length (putFrames fs ++ r) = .ok (fs, r) := by
  induction fs with
  | nil => rfl
  | cons f fs ih => simp [takeFrames, putFrames, takeFrame_putFrame, ih, bind, Except.bind]

/-- A frame's bytes decode to the operation its header selects. -/
theorem decode_putFrame (f : Frame) (r : List Byte) :
    decode (putFrame f ++ r) = .ok (frameInstr f, r) := by
  simp only [decode, putFrame, List.append_assoc, takeHead_putHeader, bind, Except.bind,
    length_class_zero, if_true, takeFrameBody_put]

/-- A port call's bytes decode by the operands of that port. -/
theorem decode_putPort (p : BitVec 32) (r : List Byte) :
    decode (putPort p ++ r) = decodePort p.toNat r := by
  simp [decode, takeHead_putPort, bind, Except.bind]

/-! ### What a decoding can give -/

/-- A chain of readers that answers: its first reader answered, and the rest answered on that. -/
theorem bind_eq_ok {α β : Type} {x : Except DecodeError α} {f : α → Except DecodeError β} {b : β}
    (h : (x >>= f) = .ok b) : ∃ a, x = .ok a ∧ f a = .ok b := by
  cases x with
  | error e => cases h
  | ok a => exact ⟨a, rfl, h⟩

theorem takeRecord_producible {k : Signal} {bs rest : List Byte} {r : Record k}
    (h : takeRecord k bs = .ok (r, rest)) : r.producible = true := by
  obtain ⟨⟨valid, bs⟩, -, h⟩ := bind_eq_ok h
  obtain ⟨⟨value, bs⟩, -, h⟩ := bind_eq_ok h
  dsimp only at h
  split at h
  · next hp => cases h; exact hp
  · cases h

theorem takeFrames_length {n : Nat} {bs rest : List Byte} {fs : List Frame}
    (h : takeFrames n bs = .ok (fs, rest)) : fs.length = n := by
  induction n generalizing bs fs rest with
  | zero => cases h; rfl
  | succ n ih =>
    obtain ⟨⟨f, bs⟩, -, h⟩ := bind_eq_ok h
    obtain ⟨⟨gs, bs⟩, hg, h⟩ := bind_eq_ok h
    cases h
    exact congrArg (· + 1) (ih hg)

/-- The operation a frame selects is well formed. -/
theorem frameInstr_wellFormed (f : Frame) : WellFormed (frameInstr f) := by
  unfold frameInstr
  split <;> trivial

/-- A port call decodes to a well-formed operation. -/
theorem decodePort_wellFormed {port : Nat} {bs rest : List Byte} {i : Instr}
    (h : decodePort port bs = .ok (i, rest)) : WellFormed i := by
  unfold decodePort at h
  split at h
  case h_21 =>
    obtain ⟨⟨now, bs⟩, -, h⟩ := bind_eq_ok h
    obtain ⟨⟨rawSample, bs⟩, -, h⟩ := bind_eq_ok h
    obtain ⟨⟨count, bs⟩, -, h⟩ := bind_eq_ok h
    obtain ⟨⟨frames, bs⟩, hf, h⟩ := bind_eq_ok h
    cases h
    show frames.length < 65536
    rw [takeFrames_length hf]
    exact count.isLt
  all_goals first
    | (cases h; trivial)
    | cases h
    | (obtain ⟨⟨r, bs⟩, hr, h⟩ := bind_eq_ok h
       obtain ⟨⟨now, bs⟩, -, h⟩ := bind_eq_ok h
       cases h
       exact takeRecord_producible hr)
    | (obtain ⟨a, -, h⟩ := bind_eq_ok h; cases h; trivial)
    | (obtain ⟨a, -, h⟩ := bind_eq_ok h; obtain ⟨b, -, h⟩ := bind_eq_ok h; cases h; trivial)
    | (obtain ⟨a, -, h⟩ := bind_eq_ok h; obtain ⟨b, -, h⟩ := bind_eq_ok h
       obtain ⟨c, -, h⟩ := bind_eq_ok h; cases h; trivial)
    | (obtain ⟨a, -, h⟩ := bind_eq_ok h; dsimp only at h; split at h <;> cases h; trivial)

/-- Whatever the bytes, what they decode to is well formed. -/
theorem decode_wellFormed {bs rest : List Byte} {i : Instr} (h : decode bs = .ok (i, rest)) :
    WellFormed i := by
  obtain ⟨⟨⟨identifier, t⟩, bs⟩, -, h⟩ := bind_eq_ok h
  dsimp only at h
  split at h
  · obtain ⟨⟨f, bs⟩, -, h⟩ := bind_eq_ok h
    cases h
    exact frameInstr_wellFormed f
  · split at h
    · exact decodePort_wellFormed h
    · cases h

/-- A well-formed APPLY operation carries a record that its decoder can output. -/
theorem carriesDecoderRecord_of_wellFormed {i : Instr} (h : WellFormed i) : CarriesDecoderRecord i := by
  cases i <;> first | exact h | trivial

end Sys2Proof.Laws
end

