-- ==== Sys2Proof/Laws/State.lean ====
section
/-! SUPPORT. What each update of the state leaves in each field. -/

namespace Sys2Proof.Machine

/-! ### `State.setVs` -/

@[simp] theorem State.setVs_vs (s : State) (v : VehicleState) : (s.setVs v).vs = v := rfl

@[simp] theorem State.setVs_bs (s : State) (v : VehicleState) : (s.setVs v).bs = s.bs := rfl

@[simp] theorem State.setVs_os (s : State) (v : VehicleState) : (s.setVs v).os = s.os := rfl

@[simp] theorem State.setVs_pin (s : State) (v : VehicleState) : (s.setVs v).pin = s.pin := rfl

@[simp] theorem State.setVs_cfg (s : State) (v : VehicleState) : (s.setVs v).cfg = s.cfg := rfl

@[simp] theorem State.setVs_stream (s : State) (v : VehicleState) : (s.setVs v).stream = s.stream := rfl

@[simp] theorem State.setVs_inputIndex (s : State) (v : VehicleState) : (s.setVs v).inputIndex = s.inputIndex := rfl

@[simp] theorem State.setVs_out (s : State) (v : VehicleState) : (s.setVs v).out = s.out := rfl

/-! ### `State.setBs` -/

@[simp] theorem State.setBs_vs (s : State) (b : ButtonState) : (s.setBs b).vs = s.vs := rfl

@[simp] theorem State.setBs_bs (s : State) (b : ButtonState) : (s.setBs b).bs = b := rfl

@[simp] theorem State.setBs_os (s : State) (b : ButtonState) : (s.setBs b).os = s.os := rfl

@[simp] theorem State.setBs_pin (s : State) (b : ButtonState) : (s.setBs b).pin = s.pin := rfl

@[simp] theorem State.setBs_cfg (s : State) (b : ButtonState) : (s.setBs b).cfg = s.cfg := rfl

@[simp] theorem State.setBs_stream (s : State) (b : ButtonState) : (s.setBs b).stream = s.stream := rfl

@[simp] theorem State.setBs_inputIndex (s : State) (b : ButtonState) : (s.setBs b).inputIndex = s.inputIndex := rfl

@[simp] theorem State.setBs_out (s : State) (b : ButtonState) : (s.setBs b).out = s.out := rfl

/-! ### `State.setOs` -/

@[simp] theorem State.setOs_vs (s : State) (o : OutputState) : (s.setOs o).vs = s.vs := rfl

@[simp] theorem State.setOs_bs (s : State) (o : OutputState) : (s.setOs o).bs = s.bs := rfl

@[simp] theorem State.setOs_os (s : State) (o : OutputState) : (s.setOs o).os = o := rfl

@[simp] theorem State.setOs_pin (s : State) (o : OutputState) : (s.setOs o).pin = s.pin := rfl

@[simp] theorem State.setOs_cfg (s : State) (o : OutputState) : (s.setOs o).cfg = s.cfg := rfl

@[simp] theorem State.setOs_stream (s : State) (o : OutputState) : (s.setOs o).stream = s.stream := rfl

@[simp] theorem State.setOs_inputIndex (s : State) (o : OutputState) : (s.setOs o).inputIndex = s.inputIndex := rfl

@[simp] theorem State.setOs_out (s : State) (o : OutputState) : (s.setOs o).out = s.out := rfl

/-! ### `State.setPin` -/

@[simp] theorem State.setPin_vs (s : State) (p : PinState) : (s.setPin p).vs = s.vs := rfl

@[simp] theorem State.setPin_bs (s : State) (p : PinState) : (s.setPin p).bs = s.bs := rfl

@[simp] theorem State.setPin_os (s : State) (p : PinState) : (s.setPin p).os = s.os := rfl

@[simp] theorem State.setPin_pin (s : State) (p : PinState) : (s.setPin p).pin = p := rfl

@[simp] theorem State.setPin_cfg (s : State) (p : PinState) : (s.setPin p).cfg = s.cfg := rfl

@[simp] theorem State.setPin_stream (s : State) (p : PinState) : (s.setPin p).stream = s.stream := rfl

@[simp] theorem State.setPin_inputIndex (s : State) (p : PinState) : (s.setPin p).inputIndex = s.inputIndex := rfl

@[simp] theorem State.setPin_out (s : State) (p : PinState) : (s.setPin p).out = s.out := rfl

/-! ### `State.answer` -/

@[simp] theorem State.answer_vs (s : State) (r : Response) : (s.answer r).vs = s.vs := rfl

@[simp] theorem State.answer_bs (s : State) (r : Response) : (s.answer r).bs = s.bs := rfl

@[simp] theorem State.answer_os (s : State) (r : Response) : (s.answer r).os = s.os := rfl

@[simp] theorem State.answer_pin (s : State) (r : Response) : (s.answer r).pin = s.pin := rfl

@[simp] theorem State.answer_cfg (s : State) (r : Response) : (s.answer r).cfg = s.cfg := rfl

@[simp] theorem State.answer_stream (s : State) (r : Response) : (s.answer r).stream = s.stream := rfl

@[simp] theorem State.answer_inputIndex (s : State) (r : Response) : (s.answer r).inputIndex = s.inputIndex := rfl

@[simp] theorem State.answer_out (s : State) (r : Response) : (s.answer r).out = r := rfl

/-! ### `State.setStream` -/

@[simp] theorem State.setStream_vs (s : State) (bs : List Byte) : (s.setStream bs).vs = s.vs := rfl

@[simp] theorem State.setStream_bs (s : State) (bs : List Byte) : (s.setStream bs).bs = s.bs := rfl

@[simp] theorem State.setStream_os (s : State) (bs : List Byte) : (s.setStream bs).os = s.os := rfl

@[simp] theorem State.setStream_pin (s : State) (bs : List Byte) : (s.setStream bs).pin = s.pin := rfl

@[simp] theorem State.setStream_cfg (s : State) (bs : List Byte) : (s.setStream bs).cfg = s.cfg := rfl

@[simp] theorem State.setStream_stream (s : State) (bs : List Byte) : (s.setStream bs).stream = bs := rfl

@[simp] theorem State.setStream_inputIndex (s : State) (bs : List Byte) : (s.setStream bs).inputIndex = s.inputIndex := rfl

@[simp] theorem State.setStream_out (s : State) (bs : List Byte) : (s.setStream bs).out = s.out := rfl

/-! ### `State.nextInput` -/

@[simp] theorem State.nextInput_vs (s : State) : s.nextInput.vs = s.vs := rfl

@[simp] theorem State.nextInput_bs (s : State) : s.nextInput.bs = s.bs := rfl

@[simp] theorem State.nextInput_os (s : State) : s.nextInput.os = s.os := rfl

@[simp] theorem State.nextInput_pin (s : State) : s.nextInput.pin = s.pin := rfl

@[simp] theorem State.nextInput_cfg (s : State) : s.nextInput.cfg = s.cfg := rfl

@[simp] theorem State.nextInput_stream (s : State) : s.nextInput.stream = s.stream := rfl

@[simp] theorem State.nextInput_inputIndex (s : State) : s.nextInput.inputIndex = s.inputIndex + 1 := rfl

@[simp] theorem State.nextInput_out (s : State) : s.nextInput.out = s.out := rfl

/-! ### `State.resetBlock` -/

@[simp] theorem State.resetBlock_vs (s : State) : s.resetBlock.vs = VehicleState.reset := rfl

@[simp] theorem State.resetBlock_bs (s : State) : s.resetBlock.bs = ButtonState.reset := rfl

@[simp] theorem State.resetBlock_os (s : State) : s.resetBlock.os = OutputState.reset := rfl

@[simp] theorem State.resetBlock_pin (s : State) : s.resetBlock.pin = PinState.reset := rfl

@[simp] theorem State.resetBlock_cfg (s : State) : s.resetBlock.cfg = s.cfg := rfl

@[simp] theorem State.resetBlock_stream (s : State) : s.resetBlock.stream = s.stream := rfl

@[simp] theorem State.resetBlock_inputIndex (s : State) : s.resetBlock.inputIndex = s.inputIndex := rfl

@[simp] theorem State.resetBlock_out (s : State) : s.resetBlock.out = s.out := rfl

/-! ### The record updates -/

@[simp] theorem Slot.store_cur (slot : Slot) (value : Byte) (now : Time) :
    (slot.store value now).cur = value := rfl

@[simp] theorem Slot.store_prev (slot : Slot) (value : Byte) (now : Time) :
    (slot.store value now).prev = slot.cur := rfl

@[simp] theorem Slot.store_ts (slot : Slot) (value : Byte) (now : Time) :
    (slot.store value now).ts = now := rfl

@[simp] theorem Slot.store_seen (slot : Slot) (value : Byte) (now : Time) :
    (slot.store value now).seen = true := rfl

@[simp] theorem VehicleState.clearOverride_lamp (v : VehicleState) : v.clearOverride.lamp = v.lamp := rfl

@[simp] theorem VehicleState.clearOverride_lock (v : VehicleState) : v.clearOverride.lock = v.lock := rfl

@[simp] theorem VehicleState.clearOverride_park (v : VehicleState) : v.clearOverride.park = v.park := rfl

@[simp] theorem VehicleState.clearOverride_soc (v : VehicleState) : v.clearOverride.soc = v.soc := rfl

@[simp] theorem VehicleState.clearOverride_unlocked (v : VehicleState) : v.clearOverride.unlocked = v.unlocked := rfl

@[simp] theorem VehicleState.clearOverride_parked (v : VehicleState) : v.clearOverride.parked = v.parked := rfl

@[simp] theorem VehicleState.clearOverride_lampRequestedOn (v : VehicleState) : v.clearOverride.lampRequestedOn = v.lampRequestedOn := rfl

@[simp] theorem VehicleState.clearOverride_systemReady (v : VehicleState) : v.clearOverride.systemReady = v.systemReady := rfl

@[simp] theorem VehicleState.clearOverride_override (v : VehicleState) : v.clearOverride.override = false := rfl

@[simp] theorem VehicleState.clearOverride_overrideLevel (v : VehicleState) : v.clearOverride.overrideLevel = false := rfl

@[simp] theorem ButtonState.clearPressed_raw (b : ButtonState) : b.clearPressed.raw = b.raw := rfl

@[simp] theorem ButtonState.clearPressed_deb (b : ButtonState) : b.clearPressed.deb = b.deb := rfl

@[simp] theorem ButtonState.clearPressed_prevDeb (b : ButtonState) : b.clearPressed.prevDeb = b.prevDeb := rfl

@[simp] theorem ButtonState.clearPressed_pressed (b : ButtonState) : b.clearPressed.pressed = false := rfl

@[simp] theorem ButtonState.clearPressed_released (b : ButtonState) : b.clearPressed.released = b.released := rfl

@[simp] theorem ButtonState.clearPressed_held (b : ButtonState) : b.clearPressed.held = b.held := rfl

@[simp] theorem ButtonState.clearPressed_doubleClick (b : ButtonState) : b.clearPressed.doubleClick = b.doubleClick := rfl

@[simp] theorem ButtonState.clearPressed_holdReported (b : ButtonState) : b.clearPressed.holdReported = b.holdReported := rfl

@[simp] theorem ButtonState.clearPressed_lastChange (b : ButtonState) : b.clearPressed.lastChange = b.lastChange := rfl

@[simp] theorem ButtonState.clearPressed_lastPress (b : ButtonState) : b.clearPressed.lastPress = b.lastPress := rfl

@[simp] theorem ButtonState.clearPressed_prevPress (b : ButtonState) : b.clearPressed.prevPress = b.prevPress := rfl

@[simp] theorem ButtonState.clearPressed_pressCount (b : ButtonState) : b.clearPressed.pressCount = b.pressCount := rfl

@[simp] theorem ButtonState.clearPressed_hasPress (b : ButtonState) : b.clearPressed.hasPress = b.hasPress := rfl

@[simp] theorem ButtonState.clearPressed_holdDuration (b : ButtonState) : b.clearPressed.holdDuration = b.holdDuration := rfl

@[simp] theorem ButtonState.clearReleased_raw (b : ButtonState) : b.clearReleased.raw = b.raw := rfl

@[simp] theorem ButtonState.clearReleased_deb (b : ButtonState) : b.clearReleased.deb = b.deb := rfl

@[simp] theorem ButtonState.clearReleased_prevDeb (b : ButtonState) : b.clearReleased.prevDeb = b.prevDeb := rfl

@[simp] theorem ButtonState.clearReleased_pressed (b : ButtonState) : b.clearReleased.pressed = b.pressed := rfl

@[simp] theorem ButtonState.clearReleased_released (b : ButtonState) : b.clearReleased.released = false := rfl

@[simp] theorem ButtonState.clearReleased_held (b : ButtonState) : b.clearReleased.held = b.held := rfl

@[simp] theorem ButtonState.clearReleased_doubleClick (b : ButtonState) : b.clearReleased.doubleClick = b.doubleClick := rfl

@[simp] theorem ButtonState.clearReleased_holdReported (b : ButtonState) : b.clearReleased.holdReported = b.holdReported := rfl

@[simp] theorem ButtonState.clearReleased_lastChange (b : ButtonState) : b.clearReleased.lastChange = b.lastChange := rfl

@[simp] theorem ButtonState.clearReleased_lastPress (b : ButtonState) : b.clearReleased.lastPress = b.lastPress := rfl

@[simp] theorem ButtonState.clearReleased_prevPress (b : ButtonState) : b.clearReleased.prevPress = b.prevPress := rfl

@[simp] theorem ButtonState.clearReleased_pressCount (b : ButtonState) : b.clearReleased.pressCount = b.pressCount := rfl

@[simp] theorem ButtonState.clearReleased_hasPress (b : ButtonState) : b.clearReleased.hasPress = b.hasPress := rfl

@[simp] theorem ButtonState.clearReleased_holdDuration (b : ButtonState) : b.clearReleased.holdDuration = b.holdDuration := rfl

@[simp] theorem ButtonState.clearHeld_raw (b : ButtonState) : b.clearHeld.raw = b.raw := rfl

@[simp] theorem ButtonState.clearHeld_deb (b : ButtonState) : b.clearHeld.deb = b.deb := rfl

@[simp] theorem ButtonState.clearHeld_prevDeb (b : ButtonState) : b.clearHeld.prevDeb = b.prevDeb := rfl

@[simp] theorem ButtonState.clearHeld_pressed (b : ButtonState) : b.clearHeld.pressed = b.pressed := rfl

@[simp] theorem ButtonState.clearHeld_released (b : ButtonState) : b.clearHeld.released = b.released := rfl

@[simp] theorem ButtonState.clearHeld_held (b : ButtonState) : b.clearHeld.held = false := rfl

@[simp] theorem ButtonState.clearHeld_doubleClick (b : ButtonState) : b.clearHeld.doubleClick = b.doubleClick := rfl

@[simp] theorem ButtonState.clearHeld_holdReported (b : ButtonState) : b.clearHeld.holdReported = b.holdReported := rfl

@[simp] theorem ButtonState.clearHeld_lastChange (b : ButtonState) : b.clearHeld.lastChange = b.lastChange := rfl

@[simp] theorem ButtonState.clearHeld_lastPress (b : ButtonState) : b.clearHeld.lastPress = b.lastPress := rfl

@[simp] theorem ButtonState.clearHeld_prevPress (b : ButtonState) : b.clearHeld.prevPress = b.prevPress := rfl

@[simp] theorem ButtonState.clearHeld_pressCount (b : ButtonState) : b.clearHeld.pressCount = b.pressCount := rfl

@[simp] theorem ButtonState.clearHeld_hasPress (b : ButtonState) : b.clearHeld.hasPress = b.hasPress := rfl

@[simp] theorem ButtonState.clearHeld_holdDuration (b : ButtonState) : b.clearHeld.holdDuration = b.holdDuration := rfl

@[simp] theorem ButtonState.clearDoubleClick_raw (b : ButtonState) : b.clearDoubleClick.raw = b.raw := rfl

@[simp] theorem ButtonState.clearDoubleClick_deb (b : ButtonState) : b.clearDoubleClick.deb = b.deb := rfl

@[simp] theorem ButtonState.clearDoubleClick_prevDeb (b : ButtonState) : b.clearDoubleClick.prevDeb = b.prevDeb := rfl

@[simp] theorem ButtonState.clearDoubleClick_pressed (b : ButtonState) : b.clearDoubleClick.pressed = b.pressed := rfl

@[simp] theorem ButtonState.clearDoubleClick_released (b : ButtonState) : b.clearDoubleClick.released = b.released := rfl

@[simp] theorem ButtonState.clearDoubleClick_held (b : ButtonState) : b.clearDoubleClick.held = b.held := rfl

@[simp] theorem ButtonState.clearDoubleClick_doubleClick (b : ButtonState) : b.clearDoubleClick.doubleClick = false := rfl

@[simp] theorem ButtonState.clearDoubleClick_holdReported (b : ButtonState) : b.clearDoubleClick.holdReported = b.holdReported := rfl

@[simp] theorem ButtonState.clearDoubleClick_lastChange (b : ButtonState) : b.clearDoubleClick.lastChange = b.lastChange := rfl

@[simp] theorem ButtonState.clearDoubleClick_lastPress (b : ButtonState) : b.clearDoubleClick.lastPress = b.lastPress := rfl

@[simp] theorem ButtonState.clearDoubleClick_prevPress (b : ButtonState) : b.clearDoubleClick.prevPress = b.prevPress := rfl

@[simp] theorem ButtonState.clearDoubleClick_pressCount (b : ButtonState) : b.clearDoubleClick.pressCount = b.pressCount := rfl

@[simp] theorem ButtonState.clearDoubleClick_hasPress (b : ButtonState) : b.clearDoubleClick.hasPress = b.hasPress := rfl

@[simp] theorem ButtonState.clearDoubleClick_holdDuration (b : ButtonState) : b.clearDoubleClick.holdDuration = b.holdDuration := rfl

end Sys2Proof.Machine
end

