-- ==== Sys2Proof/Laws/Ops.lean ====
section
/-! SUPPORT. For each shared operation, one lemma that says everything it can do. -/

namespace Sys2Proof.Machine

theorem Config.admitted_iff (c : Config) :
    c.admitted = true ↔ c.doubleClickWindow < c.holdThreshold ∧ 1 ≤ c.frameBatchMax := by
  simp [Config.admitted]

/-! ### The 64-bit view -/

/-- Bit `q` of the 64-bit view is bit `q mod 8` of byte `q div 8`. -/
theorem memRead_getLsbD (b : Buffer) (q : Nat) :
    (memRead b).getLsbD q = (b.byte (q / 8)).getLsbD (q % 8) := by
  by_cases h : q < 64
  · change BitVec.getLsbD (w := 8 + 8 + 8 + 8 + 8 + 8 + 8 + 8)
      (b.b7 ++ b.b6 ++ b.b5 ++ b.b4 ++ b.b3 ++ b.b2 ++ b.b1 ++ b.b0) q = _
    simp only [BitVec.getLsbD_append]
    unfold Buffer.byte
    interval_cases q <;> rfl
  · rw [BitVec.getLsbD_of_ge _ _ (by omega)]
    obtain ⟨d, hd⟩ : ∃ d, q / 8 = d + 8 := ⟨q / 8 - 8, by omega⟩
    simp [hd, Buffer.byte]

/-- Writing all eight bytes and reading them gives the value back. -/
theorem memRead_memWrite (a : BitVec 64) : memRead (memWrite a) = a := by
  apply BitVec.eq_of_getLsbD_eq
  intro i hi
  rw [memRead_getLsbD]
  have hi : i < 64 := hi
  unfold memWrite Buffer.byte
  interval_cases i <;> simp

/-- The access test, as propositions. -/
theorem fieldInRange_iff (position width : Byte) :
    fieldInRange position width = true ↔ position.toNat ≤ 63 ∧ width.toNat ≤ position.toNat + 1 := by
  simp [fieldInRange]

/-! ### The vehicle record -/

/-- A conditional clear touches the two override bits and nothing else. -/
theorem VehicleState.clearOverrideIf_eq (v : VehicleState) (c : Bool) :
    v.clearOverrideIf c =
      { v with override := v.override && !c, overrideLevel := v.overrideLevel && !c } := by
  cases c <;> simp [VehicleState.clearOverrideIf, VehicleState.clearOverride]

/-- Elapsed time as a number. -/
theorem elapsed_toNat (a b : Time) : (elapsed a b).toNat = (a.toNat + 2 ^ 32 - b.toNat) % 2 ^ 32 := by
  unfold elapsed
  rw [BitVec.toNat_sub]
  congr 1
  omega

/-- Elapsed time does not depend on where the timer starts. -/
theorem elapsed_add_right (a b k : Time) : elapsed (a + k) (b + k) = elapsed a b := by
  unfold elapsed
  bv_omega

/-- A signal is fresh when it has been seen and is younger than the readiness window. -/
theorem stale_eq_false_iff (c : Config) (now : Time) (slot : Slot) :
    stale c now slot = false ↔ slot.seen = true ∧ elapsed now slot.ts < c.readinessWindow := by
  simp [stale]

/-! ### The output record -/

/-- The override update in closed form: unlocked, the override is on if it was or a double-click came, and
the level is toggled, entered or kept. -/
theorem VehicleState.updateOverride_eq (v : VehicleState) (dc : Bool) :
    v.updateOverride dc =
      { v with
        override := v.unlocked && (v.override || dc)
        overrideLevel := v.unlocked &&
          (if dc then (if v.override then !v.overrideLevel else !autoTarget v) else v.overrideLevel) } := by
  rcases v with ⟨_, _, _, _, u, _, _, _, o, l⟩
  cases u <;> cases o <;> cases dc <;> rfl

/-- The latch update: nothing but the latch and its start time can change, and which way. -/
theorem OutputState.updateLatch_eq (o : OutputState) (c : Config) (h : Bool) (now : Time)
    (v : VehicleState) :
    o.updateLatch c h now v =
      { o with
        latch := if o.latch then !pulseDone c now o else h && latchGate v
        latchStart := if h && latchGate v && !o.latch then now else o.latchStart } := by
  rcases o with ⟨_, l, _, _, _⟩
  unfold OutputState.updateLatch
  cases l
  · cases h <;> cases latchGate v <;> rfl
  · simp only [Bool.not_true, Bool.and_false, Bool.true_and, Bool.false_eq_true, if_false, if_true]
    split <;> simp_all

/-! ### The button record -/

/-- Sampling: the previous-level copy, the raw level, and the time of its last change. -/
theorem ButtonState.sample_eq (b : ButtonState) (rawSample : Bool) (now : Time) :
    b.sample rawSample now =
      { b with
        prevDeb := b.deb
        raw := rawSample
        lastChange := if rawSample = b.raw then b.lastChange else now } := by
  unfold ButtonState.sample
  split
  · next h => subst h; rfl
  · rfl

/-- Hold tracking in closed form. -/
theorem ButtonState.trackHold_eq (b : ButtonState) (c : Config) (now : Time) :
    b.trackHold c now =
      { b with
        holdDuration := if b.deb then elapsed now b.lastPress else b.holdDuration
        held := b.held || (b.deb && holdNow c now b)
        holdReported := b.holdReported || (b.deb && holdNow c now b) } := by
  rcases b with ⟨_, d, _, _, _, _, _, _, _, _, _, _, _, _⟩
  cases d <;> simp [ButtonState.trackHold, holdNow]

/-- What the four reads of a tick leave of the button record. -/
theorem ButtonState.clearFlags_eq (b : ButtonState) :
    b.clearFlags = { b with pressed := false, released := false, held := false, doubleClick := false } :=
  rfl

/-! ### The step -/

/-- What a fetch that answers can be: a loop tick with free inputs, or the stimulus at the head. -/
theorem fetch_ok_cases {s t : State} {i : Instr} (h : fetch s = .ok (i, t)) :
    (s.stream = [] ∧ i = freeTick s ∧ t = s.nextInput) ∨
    (∃ rest, decode s.stream = .ok (i, rest) ∧ t = s.setStream rest) := by
  unfold fetch at h
  split at h
  · next hs => cases h; exact .inl ⟨hs, rfl, rfl⟩
  · next b bs hs =>
    rw [hs]
    split at h
    · next j rest hd => cases h; exact .inr ⟨rest, hd, rfl⟩
    · cases h

/-- A step that answers a next state ran one operation on what the fetch left. -/
theorem step_next_cases {s t : State} (h : step s = .next t) :
    s.cfg.admitted = true ∧ ∃ i u, fetch s = .ok (i, u) ∧ exec i u = .next t := by
  unfold step at h
  split at h
  · next ha =>
    split at h
    · next i u hf => exact ⟨ha, i, u, hf, h⟩
    · cases h
  · cases h

end Sys2Proof.Machine
end

