-- ==== Sys2Proof/Laws/PerInstr.lean ====
section
/-! SUPPORT. What holds of every instruction, one lemma per constructor. -/

namespace Sys2Proof.Laws

/-- The bytes of every operation hold the five bytes of a stimulus's head. -/
def EncodingHasAHead.Statement (i : Instr) : Prop :=
  5 ≤ (encode i).length

theorem putPort_length (p : BitVec 32) : (putPort p).length = 5 := rfl

theorem putFrame_length (f : Frame) : (putFrame f).length = 17 := rfl

theorem putDecoder_length (k : FrameKind) (p : BitVec 32) (f : Frame) :
    5 ≤ (putDecoder k p f).length := by
  unfold putDecoder
  split <;> simp [putPort_length, putFrame_length]

namespace EncodingHasAHead

theorem decodeLamp (f : Frame) : Statement (.decodeLamp f) :=
  putDecoder_length .lamp 1 f

theorem decodeLock (f : Frame) : Statement (.decodeLock f) :=
  putDecoder_length .lock 2 f

theorem decodePark (f : Frame) : Statement (.decodePark f) :=
  putDecoder_length .park 3 f

theorem decodeSoc (f : Frame) : Statement (.decodeSoc f) :=
  putDecoder_length .soc 4 f

theorem frameIgnored (f : Frame) : Statement (.frameIgnored f) := by
  simp [Statement, encode, putFrame_length]

theorem extract (buf : Buffer) (position width : Byte) : Statement (.extract buf position width) := by
  simp only [Statement, encode, List.length_append, putPort_length]
  omega

theorem classify (identifier : BitVec 32) (length : BitVec 4) : Statement (.classify identifier length) := by
  simp only [Statement, encode, List.length_append, putPort_length]
  omega

theorem decodeFrame (f : Frame) : Statement (.decodeFrame f) := by
  simp only [Statement, encode, List.length_append, putPort_length]
  omega

theorem applyLamp (r : LampRecord) (now : Time) : Statement (.applyLamp r now) := by
  simp only [Statement, encode, List.length_append, putPort_length]
  omega

theorem applyLock (r : LockRecord) (now : Time) : Statement (.applyLock r now) := by
  simp only [Statement, encode, List.length_append, putPort_length]
  omega

theorem applyPark (r : ParkRecord) (now : Time) : Statement (.applyPark r now) := by
  simp only [Statement, encode, List.length_append, putPort_length]
  omega

theorem applySoc (r : SocRecord) (now : Time) : Statement (.applySoc r now) := by
  simp only [Statement, encode, List.length_append, putPort_length]
  omega

theorem recomputeReadiness (now : Time) : Statement (.recomputeReadiness now) := by
  simp only [Statement, encode, List.length_append, putPort_length]
  omega

theorem clearOverride : Statement .clearOverride :=
  Nat.le_refl 5

theorem buttonTick (rawSample : Bool) (now : Time) : Statement (.buttonTick rawSample now) := by
  simp only [Statement, encode, List.length_append, putPort_length]
  omega

theorem readPressed : Statement .readPressed :=
  Nat.le_refl 5

theorem readReleased : Statement .readReleased :=
  Nat.le_refl 5

theorem readHeld : Statement .readHeld :=
  Nat.le_refl 5

theorem readDoubleClick : Statement .readDoubleClick :=
  Nat.le_refl 5

theorem outputTick (h dc : Bool) (now : Time) : Statement (.outputTick h dc now) := by
  simp only [Statement, encode, List.length_append, putPort_length]
  omega

theorem applyPins : Statement .applyPins :=
  Nat.le_refl 5

theorem tick (now : Time) (frames : List Frame) (rawSample : Bool) : Statement (.tick now frames rawSample) := by
  simp only [Statement, encode, List.length_append, putPort_length]
  omega

theorem reset : Statement .reset :=
  Nat.le_refl 5

end EncodingHasAHead

end Sys2Proof.Laws
end

