-- ==== Sys2Proof/Tests/Slice0.lean ====
section
/-! SUPPORT. The model's own tests. The words and bytes of the decoding tests are written out from
30_encoding.md and the notation of log entry 5; the expected results are those of the spec's vectors
(95_test_vectors.md) or are worked out by hand from the rule named. -/

namespace Sys2Proof.Tests

open Sys2Proof Sys2Proof.Machine

/-- Test configuration T0 (R3). -/
def t0 : Config where
  debounceWindow := 50
  doubleClickWindow := 300
  holdThreshold := 1000
  latchPulseDuration := 500
  readinessWindow := 5000
  frameBatchMax := 8

/-- The reset state under T0. -/
def s0 : State := { State.reset with cfg := t0 }

/-- The state a step or an operation gives, and `s0` where it gives none. -/
def after (o : Host.Outcome State Fault Refusal) : State :=
  match o with
  | .next t => t
  | _ => s0

/-- Buffers X1 and X3 of the vectors, and one with nothing set. -/
def x1 : Buffer := ⟨0x01, 0x23, 0x45, 0x67, 0x89, 0xAB, 0xCD, 0xEF⟩
def x3 : Buffer := ⟨0xA5, 0x5A, 0xC3, 0x3C, 0x96, 0x69, 0xF0, 0x0F⟩
def zeros : Buffer := ⟨0, 0, 0, 0, 0, 0, 0, 0⟩

def lampFrame (b1 : Byte) : Frame := ⟨0x3C3, 8, ⟨0, b1, 0, 0, 0, 0, 0, 0⟩, 0⟩
def lockFrame (b4 : Byte) : Frame := ⟨0x331, 8, ⟨0, 0, 0, 0, b4, 0, 0, 0⟩, 0⟩

/-! ### WellFormed: an ill-formed term for each check -/

theorem test_wf_refuses_an_accepted_header_as_ignored :
    ¬WellFormed (.frameIgnored ⟨0x3C3, 8, zeros, 0⟩) := by decide

theorem test_wf_accepts_a_wrong_length_as_ignored :
    WellFormed (.frameIgnored ⟨0x3C3, 7, zeros, 0⟩) := by decide

theorem test_wf_refuses_an_uncountable_batch :
    ¬WellFormed (.tick 0 (List.replicate 65536 (lampFrame 0)) false) :=
  fun h => absurd (List.length_replicate (n := 65536) (a := lampFrame 0)) (Nat.ne_of_lt h)

/-- R65: a value outside the signal's field, and an invalid record that is not all zero. -/
theorem test_wf_refuses_a_record_no_decoder_outputs :
    ¬WellFormed (.applyLamp ⟨true, 4⟩ 0) ∧ ¬WellFormed (.applyLock ⟨false, 1⟩ 0) ∧
    ¬WellFormed (.applyPark ⟨true, 16⟩ 0) ∧ ¬WellFormed (.applySoc ⟨true, 128⟩ 0) := by decide

/-- The greatest value of each field, and the all-zero invalid record. -/
theorem test_wf_accepts_the_records_of_the_decoders :
    WellFormed (.applyLamp ⟨true, 3⟩ 0) ∧ WellFormed (.applyLock ⟨true, 3⟩ 0) ∧
    WellFormed (.applyPark ⟨true, 15⟩ 0) ∧ WellFormed (.applySoc ⟨true, 127⟩ 0) ∧
    WellFormed (.applyLamp ⟨false, 0⟩ 0) := by decide

theorem test_fits_refuses_a_ninth_frame :
    ¬FitsBatch t0 (.tick 0 (List.replicate 9 (lampFrame 0)) false) := by decide

theorem test_fits_accepts_eight_frames :
    FitsBatch t0 (.tick 0 (List.replicate 8 (lampFrame 0)) false) := by decide

/-! ### Decoding: a word or the bytes of every constructor, written out -/

/-- `H = 0x8000003C3` (R56, R57). -/
theorem test_decode_decodeLamp :
    decodeTableWord 40 0x8000003C3 = some (.decodeLamp ⟨0x3C3, 8, zeros, 0⟩) := by decide

theorem test_decode_decodeLock :
    decodeTableWord 40 0x800000331 = some (.decodeLock ⟨0x331, 8, zeros, 0⟩) := by decide

theorem test_decode_decodePark :
    decodeTableWord 40 0x800000176 = some (.decodePark ⟨0x176, 8, zeros, 0⟩) := by decide

theorem test_decode_decodeSoc :
    decodeTableWord 40 0x80000043C = some (.decodeSoc ⟨0x43C, 8, zeros, 0⟩) := by decide

/-- One bit of the header flipped: the high bit of the identifier (vector of R144). -/
theorem test_decode_frameIgnored_identifier :
    decodeTableWord 40 0x8800003C3 = some (.frameIgnored ⟨0x800003C3, 8, zeros, 0⟩) := by decide

theorem test_decode_frameIgnored_length :
    decodeTableWord 40 0xF0000043C = some (.frameIgnored ⟨0x43C, 15, zeros, 0⟩) := by decide

/-- A frame's bytes: identifier least significant byte first, length, `buf[0]` to `buf[7]`, arrival. -/
theorem test_decode_frame_bytes :
    decode [0x76, 0x01, 0, 0, 8, 1, 2, 3, 4, 5, 6, 7, 9, 0x44, 0x33, 0x22, 0x11, 0xAA] =
      .ok (.decodePark ⟨0x176, 8, ⟨1, 2, 3, 4, 5, 6, 7, 9⟩, 0x11223344⟩, [0xAA]) := by rfl

theorem test_decode_extract :
    decode [6, 0, 0, 0, 0x10, 1, 2, 3, 4, 5, 6, 7, 9, 34, 4] =
      .ok (.extract ⟨1, 2, 3, 4, 5, 6, 7, 9⟩ 34 4, []) := by rfl

theorem test_decode_classify :
    decode [7, 0, 0, 0, 0x10, 0xC3, 3, 0, 0x80, 8] = .ok (.classify 0x800003C3 8, []) := by rfl

theorem test_decode_decodeFrame :
    decode [8, 0, 0, 0, 0x10, 0x3C, 4, 0, 0, 8, 0, 0, 0xC0, 0x1F, 0, 0, 0, 0, 0, 0, 0, 0] =
      .ok (.decodeFrame ⟨0x43C, 8, ⟨0, 0, 0xC0, 0x1F, 0, 0, 0, 0⟩, 0⟩, []) := by rfl

/-- A frame a decoder does not accept reaches it through its port. -/
theorem test_decode_decodeLamp_port :
    decode [1, 0, 0, 0, 0x10, 0x31, 3, 0, 0, 8, 0, 8, 0, 0, 0, 0, 0, 0, 0, 0, 0, 0] =
      .ok (.decodeLamp ⟨0x331, 8, ⟨0, 8, 0, 0, 0, 0, 0, 0⟩, 0⟩, []) := by rfl

theorem test_decode_applyLamp :
    decode [9, 0, 0, 0, 0x10, 1, 2, 0x0A, 0, 0, 0] = .ok (.applyLamp ⟨true, 2⟩ 10, []) := by rfl

theorem test_decode_applyLock :
    decode [10, 0, 0, 0, 0x10, 1, 3, 0, 1, 0, 0] = .ok (.applyLock ⟨true, 3⟩ 256, []) := by rfl

theorem test_decode_applyPark :
    decode [11, 0, 0, 0, 0x10, 1, 15, 0, 0, 0, 0xFF] = .ok (.applyPark ⟨true, 15⟩ 0xFF000000, []) := by rfl

theorem test_decode_applySoc :
    decode [12, 0, 0, 0, 0x10, 1, 101, 0xA0, 0x0F, 0, 0] = .ok (.applySoc ⟨true, 101⟩ 4000, []) := by rfl

theorem test_decode_recomputeReadiness :
    decode [13, 0, 0, 0, 0x10, 1, 2, 3, 4] = .ok (.recomputeReadiness 0x04030201, []) := by rfl

theorem test_decode_clearOverride : decode [14, 0, 0, 0, 0x10] = .ok (.clearOverride, []) := by rfl

theorem test_decode_buttonTick :
    decode [15, 0, 0, 0, 0x10, 1, 100, 0, 0, 0] = .ok (.buttonTick true 100, []) := by rfl

theorem test_decode_readPressed : decode [16, 0, 0, 0, 0x10] = .ok (.readPressed, []) := by rfl

theorem test_decode_readReleased : decode [17, 0, 0, 0, 0x10] = .ok (.readReleased, []) := by rfl

theorem test_decode_readHeld : decode [18, 0, 0, 0, 0x10] = .ok (.readHeld, []) := by rfl

theorem test_decode_readDoubleClick : decode [19, 0, 0, 0, 0x10] = .ok (.readDoubleClick, []) := by rfl

theorem test_decode_outputTick :
    decode [20, 0, 0, 0, 0x10, 1, 0, 7, 0, 0, 0] = .ok (.outputTick true false 7, []) := by rfl

theorem test_decode_applyPins : decode [21, 0, 0, 0, 0x10] = .ok (.applyPins, []) := by rfl

theorem test_decode_tick :
    decode [22, 0, 0, 0, 0x10, 5, 0, 0, 0, 1, 1, 0,
      0xC3, 3, 0, 0, 8, 0, 8, 0, 0, 0, 0, 0, 0, 0, 0, 0, 0] =
      .ok (.tick 5 [lampFrame 8] true, []) := by rfl

theorem test_decode_reset : decode [23, 0, 0, 0, 0x10] = .ok (.reset, []) := by rfl

theorem test_decode_refuses_a_class : decode [0, 0, 0, 0, 0x20] = .error (.reservedClass 0x20) := by rfl

theorem test_decode_refuses_a_port : decode [24, 0, 0, 0, 0x10] = .error (.unknownPort 24) := by rfl

theorem test_decode_refuses_a_bit :
    decode [15, 0, 0, 0, 0x10, 2, 0, 0, 0, 0] = .error (.badBit 2) := by rfl

theorem test_decode_refuses_a_record :
    decode [9, 0, 0, 0, 0x10, 1, 200, 0, 0, 0, 0] = .error (.badRecord true 200) := by rfl

theorem test_decode_refuses_a_cut_frame : decode [0xC3, 3, 0, 0, 8, 0] = .error .truncated := by rfl

/-! ### The step -/

/-- From reset, under the reset configuration, the frame row runs and its record is the response. -/
theorem test_step_runs_the_placed_word :
    step (State.reset.withFetchWord 40 0x8000003C3) =
      .next (State.reset.answer (.record .lamp ⟨true, 0⟩)) := by rfl

theorem test_step_runs_the_free_tick : ∃ t, step State.reset = .next t ∧ t.inputIndex = 1 :=
  ⟨_, rfl, rfl⟩

theorem test_step_refuses_equal_windows :
    step { s0 with cfg := { t0 with doubleClickWindow := 1000 } } = .refused .configViolation := by rfl

theorem test_step_refuses_an_empty_batch :
    step { s0 with cfg := { t0 with frameBatchMax := 0 } } = .refused .configViolation := by rfl

theorem test_step_refuses_bad_bytes :
    step { s0 with stream := [0xC3] } = .refused (.badStimulus .truncated) := by rfl

/-! ### EXTRACT, PACK, the decoders (vectors 2.1 to 2.3) -/

theorem test_extract_across_bytes :
    (after (exec (.extract x1 11 8) s0)).out = .value 0x30 := by decide

theorem test_extract_whole_view :
    (after (exec (.extract x1 63 64) s0)).out = .value 0xEFCDAB8967452301 := by decide

theorem test_extract_one_too_wide : extractField x1 7 9 = 0 := by decide

theorem test_extract_position_64 : extractField x1 64 1 = 0 := by decide

theorem test_pack_keeps_other_bits : pack x1 28 7 100 = ⟨0x01, 0x23, 0x05, 0x79, 0x89, 0xAB, 0xCD, 0xEF⟩ := by
  decide

theorem test_pack_masks : pack x1 20 13 0x3FFF = ⟨0x01, 0xFF, 0x5F, 0x67, 0x89, 0xAB, 0xCD, 0xEF⟩ := by decide

theorem test_classify_soc : (after (exec (.classify 0x43C 8) s0)).out = .kind .soc := by decide

theorem test_classify_wrong_length : (after (exec (.classify 0x331 0) s0)).out = .kind .none := by decide

theorem test_decodeLamp_x3 :
    (after (exec (.decodeLamp ⟨0x3C3, 8, x3, 0⟩) s0)).out = .record .lamp ⟨true, 3⟩ := by decide

theorem test_decodeLamp_wrong_length :
    (after (exec (.decodeLamp ⟨0x3C3, 7, ⟨0, 8, 0, 0, 0, 0, 0, 0⟩, 0⟩) s0)).out =
      .record .lamp ⟨false, 0⟩ := by decide

theorem test_decodeLock_x3 :
    (after (exec (.decodeLock ⟨0x331, 8, x3, 0⟩) s0)).out = .record .lock ⟨true, 1⟩ := by decide

theorem test_decodeLock_unlock :
    (after (exec (.decodeLock (lockFrame 8)) s0)).out = .record .lock ⟨true, 2⟩ := by decide

theorem test_decodePark_x3 :
    (after (exec (.decodePark ⟨0x176, 8, x3, 0⟩) s0)).out = .record .park ⟨true, 12⟩ := by decide

theorem test_decodePark_other_bits_set :
    (after (exec (.decodePark ⟨0x176, 8, ⟨255, 255, 255, 0x7F, 0xF8, 255, 255, 255⟩, 0⟩) s0)).out =
      .record .park ⟨true, 0⟩ := by decide

theorem test_decodeSoc_x3 :
    (after (exec (.decodeSoc ⟨0x43C, 8, x3, 0⟩) s0)).out = .record .soc ⟨true, 115⟩ := by decide

theorem test_decodeSoc_wrong_length :
    (after (exec (.decodeSoc ⟨0x43C, 9, ⟨0, 0, 0, 0x19, 0, 0, 0, 0⟩, 0⟩) s0)).out =
      .record .soc ⟨false, 0⟩ := by decide

theorem test_decodeFrame_soc :
    (after (exec (.decodeFrame ⟨0x43C, 8, ⟨0, 0, 0xC0, 0x1F, 0, 0, 0, 0⟩, 0⟩) s0)).out =
      .decoded (.soc ⟨true, 127⟩) := by decide

theorem test_decodeFrame_none :
    (after (exec (.decodeFrame ⟨0x43C, 9, x1, 0⟩) s0)).out = .decoded .none := by decide

theorem test_frameIgnored_changes_nothing :
    after (exec (.frameIgnored ⟨0x3C2, 8, x1, 0⟩) s0) = s0 := by rfl

/-! ### The vehicle operations (vectors 2.4) -/

/-- An override entered while the lamp was off. -/
def overridden : State :=
  { s0 with vs := { s0.vs with unlocked := true, override := true, overrideLevel := true } }

theorem test_applyLamp_off_without_an_edge_keeps_the_override :
    (after (exec (.applyLamp ⟨true, 3⟩ 10) overridden)).vs =
      { overridden.vs with lamp := ⟨3, 0, 10, true⟩ } := by decide

theorem test_applyLamp_off_edge_clears_the_override :
    (after (exec (.applyLamp ⟨true, 3⟩ 10)
      { overridden with vs := { overridden.vs with lamp := ⟨2, 1, 9, true⟩, lampRequestedOn := true } })).vs =
      { overridden.vs with lamp := ⟨3, 2, 10, true⟩, override := false, overrideLevel := false } := by decide

theorem test_applyLock_unlocks :
    (after (exec (.applyLock ⟨true, 2⟩ 10) s0)).vs = { s0.vs with lock := ⟨2, 0, 10, true⟩, unlocked := true } := by
  decide

theorem test_applyLock_locked_clears_the_override :
    (after (exec (.applyLock ⟨true, 1⟩ 10) overridden)).vs =
      { s0.vs with lock := ⟨1, 0, 10, true⟩ } := by decide

theorem test_applyPark_only_park_is_parked :
    (after (exec (.applyPark ⟨true, 2⟩ 10) s0)).vs = { s0.vs with park := ⟨2, 1, 10, true⟩, parked := false } := by
  decide

theorem test_applyPark_invalid_changes_nothing :
    (after (exec (.applyPark ⟨false, 0⟩ 10) s0)).vs = s0.vs := by decide

theorem test_applySoc_above_100 :
    (after (exec (.applySoc ⟨true, 101⟩ 4000) s0)).vs = { s0.vs with soc := ⟨101, 0, 4000, true⟩ } := by decide

/-- Only the charge signal has arrived, at 0xFFFFF000. -/
def charged : State := { s0 with vs := { s0.vs with soc := ⟨100, 0, 0xFFFFF000, true⟩ } }

theorem test_readiness_age_4999_across_the_wrap :
    (after (exec (.recomputeReadiness 0x387) charged)).vs.systemReady = true := by decide

theorem test_readiness_age_5000_across_the_wrap :
    (after (exec (.recomputeReadiness 0x388) charged)).vs.systemReady = false := by decide

theorem test_clearOverride :
    (after (exec .clearOverride overridden)).vs = { s0.vs with unlocked := true } := by decide

/-! ### The button (vectors 2.5) -/

/-- A press about to be confirmed, the last one confirmed at 1000. -/
def pressing : State :=
  { s0 with bs := { s0.bs with raw := true, lastChange := 900, lastPress := 1000, hasPress := true, pressCount := 1 } }

theorem test_buttonTick_double_click_bounds :
    (after (exec (.buttonTick true 1050) pressing)).bs.doubleClick = false ∧
    (after (exec (.buttonTick true 1051) pressing)).bs.doubleClick = true ∧
    (after (exec (.buttonTick true 1300) pressing)).bs.doubleClick = true ∧
    (after (exec (.buttonTick true 1301) pressing)).bs.doubleClick = false := by decide

/-- A press confirmed at 500 and held. -/
def holding : State :=
  { s0 with bs := { s0.bs with raw := true, deb := true, prevDeb := true, lastPress := 500, hasPress := true } }

theorem test_buttonTick_hold_bounds :
    (after (exec (.buttonTick true 1499) holding)).bs.held = false ∧
    (after (exec (.buttonTick true 1499) holding)).bs.holdDuration = 999 ∧
    (after (exec (.buttonTick true 1500) holding)).bs.held = true ∧
    (after (exec (.buttonTick true 1500) holding)).bs.holdReported = true := by decide

/-- All four flags set, the hold of the press reported. -/
def flagged : State :=
  { s0 with bs := { s0.bs with
      pressed := true, released := true, held := true, doubleClick := true, holdReported := true } }

theorem test_readPressed :
    after (exec .readPressed flagged) =
      { flagged with bs := { flagged.bs with pressed := false }, out := .bit true } := by rfl

theorem test_readReleased :
    after (exec .readReleased flagged) =
      { flagged with bs := { flagged.bs with released := false }, out := .bit true } := by rfl

theorem test_readHeld_keeps_holdReported :
    after (exec .readHeld flagged) =
      { flagged with bs := { flagged.bs with held := false }, out := .bit true } := by rfl

theorem test_readDoubleClick :
    after (exec .readDoubleClick flagged) =
      { flagged with bs := { flagged.bs with doubleClick := false }, out := .bit true } := by rfl

/-! ### The outputs (vectors 2.6) -/

/-- The state of the light vectors. -/
def lightState (unlocked requested ready override level : Bool) : State :=
  { s0 with vs := { s0.vs with
      unlocked := unlocked, lampRequestedOn := requested, systemReady := ready
      override := override, overrideLevel := level } }

/-- What the light vectors list: override, level, light. -/
def lightAfter (s : State) (dc : Bool) : Bool × Bool × Bool :=
  let t := after (exec (.outputTick false dc 0) s)
  (t.vs.override, t.vs.overrideLevel, t.os.light)

/-- Vectors O1, O2, O4, O5, O7, O8. -/
theorem test_outputTick_light :
    lightAfter (lightState false true true false false) true = (false, false, true) ∧
    lightAfter (lightState true true true false false) true = (true, false, false) ∧
    lightAfter (lightState true true false false false) true = (true, true, true) ∧
    lightAfter (lightState true false true true true) true = (true, false, false) ∧
    lightAfter (lightState false true true true true) false = (false, false, true) ∧
    lightAfter (lightState true false false true true) false = (true, true, true) := by decide

/-- What the latch vectors list: latch and start, from a state with the gate open or closed by readiness. -/
def latchAfter (h ready latch : Bool) (start now : Time) : Bool × Time :=
  let s := { lightState true false ready false false with os := { s0.os with latch := latch, latchStart := start } }
  let t := after (exec (.outputTick h false now) s)
  (t.os.latch, t.os.latchStart)

/-- Vectors L1, L3, L6, L7, L8, L9, L11, L12. -/
theorem test_outputTick_latch :
    latchAfter true true false 0 7000 = (true, 7000) ∧
    latchAfter true false false 0 7000 = (false, 0) ∧
    latchAfter false true true 7000 7499 = (true, 7000) ∧
    latchAfter false true true 7000 7500 = (false, 7000) ∧
    latchAfter true true true 7000 7200 = (true, 7000) ∧
    latchAfter true true true 7000 7500 = (false, 7000) ∧
    latchAfter false true true 0xFFFFFF00 0xF3 = (true, 0xFFFFFF00) ∧
    latchAfter false true true 0xFFFFFF00 0xF4 = (false, 0xFFFFFF00) := by decide

theorem test_applyPins_light_first :
    (after (exec .applyPins { s0 with os := { s0.os with light := true, latch := true } })).out =
      .events [.setLight true, .setLatch true] := by decide

theorem test_applyPins_no_change_no_call :
    (after (exec .applyPins { s0 with os := ⟨true, true, 0, true, true⟩ })).out = .events [] := by decide

/-! ### The tick and reset (vectors 2.7 and 2.8) -/

/-- K6 and K7: two lamp frames in one tick, in list order. -/
theorem test_tick_frames_in_list_order :
    (after (exec (.tick 0 [lampFrame 0, lampFrame 8] false) s0)).out =
      .tick [.setLight true] false false false false ∧
    (after (exec (.tick 0 [lampFrame 8, lampFrame 0] false) s0)).out = .tick [] false false false false := by
  decide

/-- R151 case 3: an unlock and a double-click in one tick; the gate is open. -/
theorem test_tick_unlock_before_double_click :
    (after (exec (.tick 1200 [lockFrame 12] true) pressing)).out =
      .tick [.setLight true] true false false true := by decide

theorem test_reset_clears_the_block : after (exec .reset flagged) = s0 := by rfl

/-! ### Witnesses: for each statement that has hypotheses, values that meet them -/

theorem test_witness_DecodeEncodeRoundTrip :
    WellFormed (.frameIgnored ⟨0x3C2, 8, x1, 7⟩) ∧ WellFormed (.tick 5 [lampFrame 8] true) ∧
    WellFormed (.decodeLamp ⟨0x331, 8, x1, 7⟩) := by decide

/-- Each of the four headers, and three beside them. -/
theorem test_witness_EveryFrameDecodes :
    frameInstr ⟨0x3C3, 8, x1, 0⟩ = .decodeLamp ⟨0x3C3, 8, x1, 0⟩ ∧
    frameInstr ⟨0x331, 8, x1, 0⟩ = .decodeLock ⟨0x331, 8, x1, 0⟩ ∧
    frameInstr ⟨0x176, 8, x1, 0⟩ = .decodePark ⟨0x176, 8, x1, 0⟩ ∧
    frameInstr ⟨0x43C, 8, x1, 0⟩ = .decodeSoc ⟨0x43C, 8, x1, 0⟩ ∧
    frameInstr ⟨0x3C4, 8, x1, 0⟩ = .frameIgnored ⟨0x3C4, 8, x1, 0⟩ ∧
    frameInstr ⟨0x3C3, 9, x1, 0⟩ = .frameIgnored ⟨0x3C3, 9, x1, 0⟩ ∧
    frameInstr ⟨0x3C3, 7, x1, 0⟩ = .frameIgnored ⟨0x3C3, 7, x1, 0⟩ := by decide

/-- T0 is admitted, and so is the least pair of windows with the least batch; equal windows are not. -/
theorem test_witness_admitted_configurations :
    t0.doubleClickWindow < t0.holdThreshold ∧ 1 ≤ t0.frameBatchMax ∧
    (⟨0, 0, 1, 0, 0, 1⟩ : Config).admitted = true ∧ (⟨0, 1, 1, 0, 0, 1⟩ : Config).admitted = false ∧
    (⟨0, 0, 1, 0, 0, 0⟩ : Config).admitted = false := by decide

theorem test_witness_StepRunsTheDecodedStimulus :
    let s := { s0 with stream := [16, 0, 0, 0, 0x10, 0xC3] }
    s.cfg.doubleClickWindow < s.cfg.holdThreshold ∧ 1 ≤ s.cfg.frameBatchMax ∧ s.stream ≠ [] ∧
      decode s.stream = .ok (.readPressed, [0xC3]) := by
  refine ⟨by decide, by decide, by decide, rfl⟩

theorem test_witness_StepWithNothingPresentedIsALoopTick :
    s0.cfg.doubleClickWindow < s0.cfg.holdThreshold ∧ 1 ≤ s0.cfg.frameBatchMax ∧ s0.stream = [] := by decide

/-- Nothing presented, and a stimulus presented. -/
theorem test_witness_StepAnswersOnNothingOrAStimulus :
    s0.cfg.doubleClickWindow < s0.cfg.holdThreshold ∧ 1 ≤ s0.cfg.frameBatchMax ∧ s0.stream = [] ∧
    ∃ i rest, decode ({ s0 with stream := [14, 0, 0, 0, 0x10] } : State).stream = .ok (i, rest) :=
  ⟨by decide, by decide, rfl, _, _, rfl⟩

/-- R79: each corner case at the boundary of its range. -/
theorem test_witness_ExtractCornerCases :
    extractField x1 255 0 = 0 ∧ extractField x1 63 0 = 0 ∧ extractField x1 63 64 = memRead x1 ∧
    extractField x1 63 65 = 0 ∧ extractField x1 255 255 = 0 ∧ extractField x1 64 1 = 0 ∧
    extractField x1 62 63 = 0x6FCDAB8967452301 ∧ extractField x1 0 2 = 0 ∧ extractField x1 62 64 = 0 ∧
    extractField x1 0 1 = 1 ∧ extractField x1 63 1 = 1 := by decide

/-- R82: two fields that touch and do not meet, on either side. -/
theorem test_witness_PackThenExtractRoundTrip :
    let p : Byte := 28
    let w : Byte := 7
    p.toNat ≤ 63 ∧ 1 ≤ w.toNat ∧ w.toNat ≤ p.toNat + 1 ∧
    ((21 : Byte).toNat < p.toNat + 1 - w.toNat ∧ (22 : Byte).toNat ≤ (21 : Byte).toNat + 1) ∧
    (p.toNat < (29 : Byte).toNat + 1 - (1 : Byte).toNat) ∧
    extractField (pack x1 p w 127) 21 22 = extractField x1 21 22 ∧
    extractField (pack x1 p w 0) 29 1 = extractField x1 29 1 := by decide

/-- R78: the widest field a decoder reads is 7 bits. -/
theorem test_witness_ExtractResultIsBounded :
    (descriptor .soc).width.toNat = 7 ∧ ¬((64 : Byte).toNat ≤ 63 ∧ (1 : Byte).toNat ≤ (64 : Byte).toNat + 1) ∧
    ¬((0 : Byte).toNat ≤ 63 ∧ (2 : Byte).toNat ≤ (0 : Byte).toNat + 1) := by decide

theorem test_witness_TickIgnoresUnacceptedFrames :
    let f : Frame := ⟨0x3C3, 7, x1, 0⟩
    ¬(f.length = 8 ∧ (f.identifier = 0x3C3 ∨ f.identifier = 0x331 ∨ f.identifier = 0x176 ∨
      f.identifier = 0x43C)) ∧
    ([lampFrame 8] ++ f :: List.replicate 6 (lockFrame 8)).length ≤ s0.cfg.frameBatchMax := by decide

theorem test_witness_ApplyResults :
    (⟨true, 1⟩ : LampRecord).valid = true ∧ (⟨false, 1⟩ : LampRecord).valid = false := by decide

/-- A slot of age 4999, the oldest that is fresh. -/
theorem test_witness_ReadinessIsTheOrOfFreshness :
    charged.vs.soc.seen = true ∧
    ((0x387 : Time).toNat + 2 ^ 32 - charged.vs.soc.ts.toNat) % 2 ^ 32 < charged.cfg.readinessWindow.toNat := by
  decide

/-- The raw level has been pressed for exactly the debounce window. -/
theorem test_witness_ButtonTickPressEdge :
    pressing.cfg.doubleClickWindow < pressing.cfg.holdThreshold ∧ pressing.bs.deb = false ∧
    pressing.cfg.debounceWindow ≤
      950 - (if pressing.bs.raw = true then pressing.bs.lastChange else 950) := by decide

/-- R107's corner case: with a window of 0 the tick that samples the change accepts it. -/
theorem test_witness_ButtonTick_edges_with_no_debounce :
    let c := { t0 with debounceWindow := 0 }
    c.doubleClickWindow < c.holdThreshold ∧
    (after (exec (.buttonTick true 100) { s0 with cfg := c })).bs.deb = true ∧
    (after (exec (.buttonTick false 100) { holding with cfg := c })).bs.deb = false := by decide

/-- A held button, the raw level released for exactly the debounce window. -/
def releasing : State := { holding with bs := { holding.bs with raw := false, lastChange := 900 } }

theorem test_witness_ButtonTickReleaseEdge :
    releasing.bs.deb = true ∧
    releasing.cfg.debounceWindow ≤
      950 - (if releasing.bs.raw = false then releasing.bs.lastChange else 950) := by decide

/-- The sample equals the level; or the raw level is one count short of the debounce window. -/
theorem test_witness_ButtonTickWithoutAnEdge :
    true = holding.bs.deb ∧
    (949 : Time) - (if pressing.bs.raw = true then pressing.bs.lastChange else 949) <
      pressing.cfg.debounceWindow := by decide

theorem test_witness_ButtonTickIsIndependentOfTheVehicle :
    s0.bs = charged.bs ∧ s0.cfg = charged.cfg ∧ s0.vs ≠ charged.vs := by decide

/-- A press whose hold has been reported and read. -/
def reported : State := { holding with bs := { holding.bs with holdReported := true } }

theorem test_witness_HoldIsReportedOncePerPress :
    reported.bs.holdReported = true ∧ reported.bs.held = false ∧
    (after (exec (.buttonTick true 1500) reported)).bs.deb = true := by decide

/-- A state in which the next tick reads a hold, and one in which it reads a double-click. -/
theorem test_witness_HoldAndDoubleClickNeverFallInOneTick :
    holding.cfg.doubleClickWindow < holding.cfg.holdThreshold ∧ ButtonInv holding.bs ∧ FlagsClear holding.bs ∧
    ButtonInv pressing.bs ∧ FlagsClear pressing.bs ∧
    (after (exec (.tick 1500 [] true) holding)).out = .tick [] false false true false ∧
    (after (exec (.tick 1300 [] true) pressing)).out = .tick [] true false false true := by decide

theorem test_witness_DoubleClickWhileLockedIsIgnored : s0.vs.unlocked = false := by decide

/-- An unlocked vehicle with a double-click in this tick: the override starts. -/
theorem test_witness_OverrideStartsOnlyByAGatedDoubleClick :
    (lightState true false true false false).vs.override = false ∧
    (after (exec (.outputTick false true 0) (lightState true false true false false))).vs.override = true ∧
    (after (exec (.tick 1200 [lockFrame 12] true) pressing)).vs.override = true := by decide

/-- No frame at all, and frames of both kinds that end no override: an off request while off, a lamp request,
an unlocked value. A locked value and a lamp-off edge are the events shut out. -/
theorem test_witness_OverriddenLightIgnoresReadinessAndRequest :
    overridden.vs.unlocked = true ∧ overridden.vs.override = true ∧
    bringsNoClear overridden.vs.lampRequestedOn [] = true ∧
    bringsNoClear overridden.vs.lampRequestedOn [lampFrame 0, lampFrame 8, lockFrame 12] = true ∧
    (after (exec (.tick 0 [lampFrame 0, lampFrame 8, lockFrame 12] false) overridden)).os.light = true ∧
    bringsNoClear false [lampFrame 8, lampFrame 0x18] = false ∧ bringsNoClear false [lockFrame 4] = false := by
  decide

/-- A tick in which the hold edge finds the gate open. -/
theorem test_witness_LatchStartsOnlyThroughItsGate :
    let s := { holding with vs := { s0.vs with unlocked := true, lock := ⟨2, 0, 1400, true⟩ } }
    s.os.latch = false ∧ (after (exec (.tick 1500 [] true) s)).os.latch = true ∧
    latchAfter true true false 0 7000 = (true, 7000) := by decide

/-- A pulse that ends by its duration, in an OUTPUT_TICK, in a TICK, and by RESET. -/
theorem test_witness_LatchEndsOnlyByItsTimeout :
    let s := { s0 with os := { s0.os with latch := true, latchStart := 7000 } }
    (after (exec (.outputTick false false 7500) s)).os.latch = false ∧
    (after (exec (.tick 7500 [] false) s)).os.latch = false ∧
    (after (exec (.tick 7499 [] false) s)).os.latch = true ∧
    (after (exec .reset s)).os.latch = false := by decide

theorem test_witness_PinsMoveOnlyByApplyPins :
    (after (exec .applyPins { s0 with os := { s0.os with light := true } })).pin ≠ s0.pin ∧
    (after (exec (.tick 0 [lampFrame 8] false) s0)).pin ≠ s0.pin := by decide

theorem test_witness_TickIsItsPhases : ([lampFrame 8, lockFrame 8] : List Frame).length ≤ s0.cfg.frameBatchMax := by
  decide

theorem test_witness_TickSettlesThePins :
    PinInv s0 ∧ (after (exec (.tick 0 [lampFrame 8] false) s0)).pin.light = true := by decide

/-- A lock frame in the tick ends an override. -/
theorem test_witness_LockedTickEndsAutomatic :
    overridden.vs.override = true ∧
    (after (exec (.tick 10 [lockFrame 4] false) overridden)).vs.unlocked = false := by decide

theorem test_witness_LampRequestLightsInItsOwnTick :
    ((lampFrame 0x08).data.b1 >>> 3) &&& 3 = 1 ∧ ((lampFrame 0x10).data.b1 >>> 3) &&& 3 = 2 ∧
    0 < s0.cfg.readinessWindow ∧ 1 ≤ s0.cfg.frameBatchMax ∧ s0.vs.unlocked = false ∧
    (let s := { s0 with vs := { s0.vs with unlocked := true } }
     s.vs.override = false ∧
     (after (exec (.tick 0 [lampFrame 8] false) s)).out = .tick [.setLight true] false false false false) := by
  decide

theorem test_witness_EveryStepKeepsTheInvariant :
    State.Inv { s0 with stream := [14, 0, 0, 0, 0x10] } ∧
    (∃ t, step { s0 with stream := [14, 0, 0, 0, 0x10] } = .next t) ∧
    VehicleInv (after (exec (.applyLock ⟨true, 3⟩ 10) s0)).vs := by
  refine ⟨by decide, ⟨_, rfl⟩, by decide⟩

/-- The greatest values of the ranges, and the greatest value of a record. -/
theorem test_witness_EveryOperationKeepsTheInvariant :
    CarriesDecoderRecord (.applySoc ⟨true, 127⟩ 0) ∧ State.Inv s0 ∧ VehicleRange { s0.vs with
      lamp := ⟨3, 3, 0, true⟩, lock := ⟨3, 3, 0, true⟩, park := ⟨15, 15, 0, true⟩, soc := ⟨127, 127, 0, true⟩ } := by
  refine ⟨by decide, by decide, by decide⟩

theorem test_witness_ResetStateIsFixedUnderEmptyInput :
    s0.vs = VehicleState.reset ∧ s0.bs = ButtonState.reset ∧ s0.os = OutputState.reset ∧
    s0.pin = PinState.reset := by decide

/-- Two states one tick from reset whose timers differ by 1000. -/
theorem test_witness_TickIsIndependentOfTheTimerOrigin :
    ShiftedBy 1000 (after (exec (.tick 7 [lampFrame 8] true) s0))
      (after (exec (.tick 1007 [lampFrame 8] true) s0)) := by
  refine ⟨by decide, by decide, by decide, by decide, by decide⟩

end Sys2Proof.Tests
end

section
/-! PROOFS. When a step is refused, and for which reason (00_scope.md R4, 45_tick.md R138,
60_exceptions.md R148; log entry 1). -/

namespace Sys2Proof.Machine

/-! ### The outcome of an operation and of a step -/

/-- R143: no operation faults or is refused, whatever its operands and the state. -/
theorem exec_eq_next (i : Instr) (s : State) : ∃ t, exec i s = .next t := by
  cases i <;> exact ⟨_, rfl⟩

/-- The model's guard (log entry 1) comes before anything is fetched. -/
theorem step_of_not_admitted {s : State} (h : ¬ s.cfg.admitted = true) :
    step s = .refused .configViolation :=
  if_neg h

theorem step_of_fetch_ok {s u : State} {i : Instr} (ha : s.cfg.admitted = true)
    (hf : fetch s = .ok (i, u)) : step s = exec i u := by
  simp only [step, ha, hf, if_true]

theorem step_of_fetch_error {s : State} {e : DecodeError} (ha : s.cfg.admitted = true)
    (hf : fetch s = .error e) : step s = .refused (.badStimulus e) := by
  simp only [step, ha, hf, if_true]

/-- Under an admitted configuration only the bytes presented can stop a step. -/
theorem step_cases_of_admitted {s : State} (ha : s.cfg.admitted = true) :
    (∃ t, step s = .next t) ∨ ∃ e, step s = .refused (.badStimulus e) := by
  cases hf : fetch s with
  | ok p =>
    obtain ⟨i, u⟩ := p
    rw [step_of_fetch_ok ha hf]
    exact .inl (exec_eq_next i u)
  | error e => exact .inr ⟨e, step_of_fetch_error ha hf⟩

/-! ### The configuration refusal -/

/-- Neither outcome of a step under an admitted configuration is the configuration's refusal. -/
theorem step_ne_configViolation_of_admitted {s : State} (ha : s.cfg.admitted = true) :
    step s ≠ .refused .configViolation := by
  obtain ⟨t, ht⟩ | ⟨e, he⟩ := step_cases_of_admitted ha
  · simp [ht]
  · simp [he]

theorem step_eq_configViolation_iff (s : State) :
    step s = .refused .configViolation ↔ ¬ s.cfg.admitted = true :=
  ⟨fun h ha => step_ne_configViolation_of_admitted ha h, step_of_not_admitted⟩

/-- Settles O8: the guard of `step` refuses every configuration that is not admitted, and an admitted one
leaves `badStimulus` as the only reason to refuse, because every operation answers a next state. -/
theorem stepRefusesExactlyTheViolatedConfigurations :
    Obligations.StepRefusesExactlyTheViolatedConfigurations := by
  intro s
  rw [step_eq_configViolation_iff, Config.admitted_iff]

end Sys2Proof.Machine
end

section
/-! PROOFS. What every operation and every step keeps: the invariants of `VS` (10_state.md R19 (a) to (f)),
the ranges of its values (R19 (g)), the invariants of `BS` (R27 (a), (b)) and of the pins (R31); and what
RESET writes (R34). -/

namespace Sys2Proof.Machine

/-! ### Values a decoder can output (R65) -/

/-- An extracted field is below `2^width`, in range or not. -/
theorem extractField_toNat_lt (buf : Buffer) (position width : Byte) :
    (extractField buf position width).toNat < 2 ^ width.toNat := by
  have hpow : 0 < 2 ^ width.toNat := Nat.two_pow_pos _
  unfold extractField
  split
  · calc _ ≤ ((memRead buf).toNat >>> fieldShift position width) &&& fieldMask width := Nat.mod_le _ _
      _ ≤ fieldMask width := Nat.and_le_right
      _ < 2 ^ width.toNat := Nat.sub_lt hpow Nat.one_pos
  · exact hpow

/-- The ranges of R19 (g) are those of the signals' fields in the layout of R60. -/
theorem maxValue_toNat_succ (k : Signal) : k.maxValue.toNat + 1 = 2 ^ (descriptor k).width.toNat := by
  cases k <;> rfl

theorem producible_le_maxValue {k : Signal} {r : Record k} (h : r.producible = true) :
    r.value ≤ k.maxValue := by
  unfold Record.producible at h
  split at h
  · exact of_decide_eq_true h
  · rw [eq_of_beq h]
    exact Nat.zero_le _

theorem decodeSignal_producible (k : Signal) (f : Frame) : (decodeSignal k f).producible = true := by
  unfold decodeSignal
  split
  · rfl
  · have hlt := extractField_toNat_lt f.data (descriptor k).position (descriptor k).width
    rw [← maxValue_toNat_succ] at hlt
    simp only [Record.producible, if_true, decide_eq_true_eq, BitVec.le_def, BitVec.toNat_setWidth]
    exact (Nat.mod_le _ _).trans (Nat.le_of_lt_succ hlt)

/-! ### Predicates that every update of `VS` keeps -/

/-- `P` holds after reset and is kept by every operation that writes `VS`, each APPLY being given a record
that its decoder can output. -/
structure KeptByVehicleOps (P : VehicleState → Prop) : Prop where
  reset : P VehicleState.reset
  applyLamp : ∀ {v r} now, r.producible = true → P v → P (v.applyLamp r now)
  applyLock : ∀ {v r} now, r.producible = true → P v → P (v.applyLock r now)
  applyPark : ∀ {v r} now, r.producible = true → P v → P (v.applyPark r now)
  applySoc : ∀ {v r} now, r.producible = true → P v → P (v.applySoc r now)
  recomputeReadiness : ∀ {v} c now, P v → P (v.recomputeReadiness c now)
  clearOverride : ∀ {v}, P v → P v.clearOverride
  updateOverride : ∀ {v} dc, P v → P (v.updateOverride dc)

namespace KeptByVehicleOps

variable {P : VehicleState → Prop} (hP : KeptByVehicleOps P)
include hP

/-- A frame reaches `VS` only through a decoder's record. -/
theorem applyDispatched {v : VehicleState} (f : Frame) (now : Time) (hv : P v) :
    P (v.applyDecoded (dispatchFrame f) now) := by
  unfold dispatchFrame
  split
  · exact hP.applyLamp now (decodeSignal_producible _ f) hv
  · exact hP.applyLock now (decodeSignal_producible _ f) hv
  · exact hP.applyPark now (decodeSignal_producible _ f) hv
  · exact hP.applySoc now (decodeSignal_producible _ f) hv
  · exact hv

theorem applyFrames {v : VehicleState} (frames : List Frame) (now : Time) (hv : P v) :
    P (v.applyFrames frames now) := by
  induction frames generalizing v with
  | nil => exact hv
  | cons f fs ih => exact ih (hP.applyDispatched f now hv)

theorem receive {v : VehicleState} (c : Config) (now : Time) (frames : List Frame) (hv : P v) :
    P (v.receive c now frames) :=
  hP.recomputeReadiness c now (hP.applyFrames (batch c frames) now hv)

/-- Every operation keeps such a predicate of `VS`. -/
theorem exec_keeps {i : Instr} {s t : State} (hi : CarriesDecoderRecord i) (h : exec i s = .next t)
    (hv : P s.vs) : P t.vs := by
  cases i with
  | applyLamp r now => cases h; exact hP.applyLamp now hi hv
  | applyLock r now => cases h; exact hP.applyLock now hi hv
  | applyPark r now => cases h; exact hP.applyPark now hi hv
  | applySoc r now => cases h; exact hP.applySoc now hi hv
  | recomputeReadiness now => cases h; exact hP.recomputeReadiness s.cfg now hv
  | clearOverride => cases h; exact hP.clearOverride hv
  | outputTick hold dc now => cases h; exact hP.updateOverride dc hv
  | tick now frames rawSample =>
    cases h
    exact hP.updateOverride _ (hP.receive s.cfg now frames hv)
  | reset => cases h; exact hP.reset
  | _ => cases h; exact hv

end KeptByVehicleOps

/-! ### The ranges of `VS` (R19 (g)) -/

/-- A store shifts the current value, already in range, into the previous one. -/
theorem store_le {slot : Slot} {value m : Byte} (now : Time) (hslot : slot.cur ≤ m ∧ slot.prev ≤ m)
    (hvalue : value ≤ m) : (slot.store value now).cur ≤ m ∧ (slot.store value now).prev ≤ m :=
  ⟨hvalue, hslot.1⟩

theorem vehicleRange_kept : KeptByVehicleOps VehicleRange where
  reset := by decide
  applyLamp {v r} now hr hv := by
    obtain ⟨hlamp, hrest⟩ := hv
    unfold VehicleState.applyLamp
    split
    · rw [VehicleState.clearOverrideIf_eq]
      exact ⟨store_le now hlamp (producible_le_maxValue hr), hrest⟩
    · exact ⟨hlamp, hrest⟩
  applyLock {v r} now hr hv := by
    obtain ⟨hlamp, hlock, hrest⟩ := hv
    unfold VehicleState.applyLock
    split
    · rw [VehicleState.clearOverrideIf_eq]
      exact ⟨hlamp, store_le now hlock (producible_le_maxValue hr), hrest⟩
    · exact ⟨hlamp, hlock, hrest⟩
  applyPark {v r} now hr hv := by
    obtain ⟨hlamp, hlock, hpark, hsoc⟩ := hv
    unfold VehicleState.applyPark
    split
    · exact ⟨hlamp, hlock, store_le now hpark (producible_le_maxValue hr), hsoc⟩
    · exact ⟨hlamp, hlock, hpark, hsoc⟩
  applySoc {v r} now hr hv := by
    obtain ⟨hlamp, hlock, hpark, hsoc⟩ := hv
    unfold VehicleState.applySoc
    split
    · exact ⟨hlamp, hlock, hpark, store_le now hsoc (producible_le_maxValue hr)⟩
    · exact ⟨hlamp, hlock, hpark, hsoc⟩
  recomputeReadiness _ _ hv := hv
  clearOverride hv := hv
  updateOverride {v} dc hv := by
    rw [VehicleState.updateOverride_eq]
    exact hv

/-! ### The invariants of `VS` (R19 (a) to (f)) -/

theorem store_unseenIsEmpty (slot : Slot) (value : Byte) (now : Time) (v : Byte) :
    UnseenIsEmpty (slot.store value now) v :=
  fun h => nomatch h

theorem lampOn_iff (value : Byte) : lampOn value = true ↔ value = 1 ∨ value = 2 := by
  simp [lampOn]

theorem lockOpen_iff (value : Byte) : lockOpen value = true ↔ value = 2 ∨ value = 3 := by
  simp [lockOpen]

theorem parkSet_iff (value : Byte) : parkSet value = true ↔ value = 1 := by
  simp [parkSet]

/-- Only clauses (d) and (e) speak of the override. -/
theorem vehicleInv_withOverride {v : VehicleState} {override level : Bool} (hv : VehicleInv v)
    (hlevel : override = false → level = false) (hunlocked : override = true → v.unlocked = true) :
    VehicleInv { v with override := override, overrideLevel := level } := by
  obtain ⟨hlock, hpark, hlamp, -, -, hempty⟩ := hv
  exact ⟨hlock, hpark, hlamp, hlevel, hunlocked, hempty⟩

theorem vehicleInv_clearOverrideIf {v : VehicleState} (c : Bool) (hv : VehicleInv v) :
    VehicleInv (v.clearOverrideIf c) := by
  unfold VehicleState.clearOverrideIf
  split
  · exact vehicleInv_withOverride hv (fun _ => rfl) nofun
  · exact hv

theorem vehicleInv_applyLamp {v : VehicleState} (r : LampRecord) (now : Time) (hv : VehicleInv v) :
    VehicleInv (v.applyLamp r now) := by
  unfold VehicleState.applyLamp
  split
  · obtain ⟨hlock, hpark, -, hlevel, hoverride, -, hempty⟩ := hv
    exact vehicleInv_clearOverrideIf _ ⟨hlock, hpark, lampOn_iff r.value, hlevel, hoverride,
      store_unseenIsEmpty _ _ _ _, hempty⟩
  · exact hv

/-- A locked value clears the override in the same operation, so clause (e) survives the lock. -/
theorem vehicleInv_applyLock {v : VehicleState} (r : LockRecord) (now : Time) (hv : VehicleInv v) :
    VehicleInv (v.applyLock r now) := by
  unfold VehicleState.applyLock
  split
  · obtain ⟨-, hpark, hlamp, hlevel, -, elamp, -, hempty⟩ := hv
    rw [VehicleState.clearOverrideIf_eq]
    refine ⟨lockOpen_iff r.value, hpark, hlamp, ?level, ?override, elamp,
      store_unseenIsEmpty _ _ _ _, hempty⟩
    case level =>
      cases lockOpen r.value with
      | true => simpa using hlevel
      | false => simp
    case override => simp
  · exact hv

theorem vehicleInv_applyPark {v : VehicleState} (r : ParkRecord) (now : Time) (hv : VehicleInv v) :
    VehicleInv (v.applyPark r now) := by
  unfold VehicleState.applyPark
  split
  · obtain ⟨hlock, -, hlamp, hlevel, hoverride, elamp, elock, -, esoc⟩ := hv
    exact ⟨hlock, parkSet_iff r.value, hlamp, hlevel, hoverride, elamp, elock,
      store_unseenIsEmpty _ _ _ _, esoc⟩
  · exact hv

theorem vehicleInv_applySoc {v : VehicleState} (r : SocRecord) (now : Time) (hv : VehicleInv v) :
    VehicleInv (v.applySoc r now) := by
  unfold VehicleState.applySoc
  split
  · obtain ⟨hlock, hpark, hlamp, hlevel, hoverride, elamp, elock, epark, -⟩ := hv
    exact ⟨hlock, hpark, hlamp, hlevel, hoverride, elamp, elock, epark, store_unseenIsEmpty _ _ _ _⟩
  · exact hv

/-- The update sets an override only under `unlocked`, and leaves no level without one. -/
theorem vehicleInv_updateOverride {v : VehicleState} (dc : Bool) (hv : VehicleInv v) :
    VehicleInv (v.updateOverride dc) := by
  unfold VehicleState.updateOverride
  split
  · exact vehicleInv_withOverride hv (fun _ => rfl) nofun
  · next hunlocked =>
    have hunlocked : v.unlocked = true := by simpa using hunlocked
    split
    · split
      · next hon =>
        exact vehicleInv_withOverride hv (fun hoff => absurd (hon.symm.trans hoff) nofun)
          (fun _ => hunlocked)
      · exact vehicleInv_withOverride hv nofun (fun _ => hunlocked)
    · exact hv

theorem vehicleInv_kept : KeptByVehicleOps VehicleInv where
  reset := by decide
  applyLamp now _ hv := vehicleInv_applyLamp _ now hv
  applyLock now _ hv := vehicleInv_applyLock _ now hv
  applyPark now _ hv := vehicleInv_applyPark _ now hv
  applySoc now _ hv := vehicleInv_applySoc _ now hv
  recomputeReadiness _ _ hv := hv
  clearOverride hv := vehicleInv_withOverride hv (fun _ => rfl) nofun
  updateOverride dc hv := vehicleInv_updateOverride dc hv

/-! ### The invariants of `BS` (R27 (a), (b)) -/

theorem buttonInv_reset : ButtonInv ButtonState.reset := by
  decide

theorem buttonInv_sample {b : ButtonState} (rawSample : Bool) (now : Time) (hb : ButtonInv b) :
    ButtonInv (b.sample rawSample now) := by
  rw [ButtonState.sample_eq]
  exact hb

/-- A press edge leaves the button pressed with a press on record; a release edge clears the hold state. -/
theorem buttonInv_debounce {b : ButtonState} (c : Config) (now : Time) (hb : ButtonInv b) :
    ButtonInv (b.debounce c now) := by
  unfold ButtonState.debounce
  split
  · split
    · exact ⟨nofun, fun _ => rfl⟩
    · exact ⟨fun _ => ⟨rfl, rfl, rfl⟩, nofun⟩
  · exact hb

/-- Hold tracking writes the hold state only while the button is pressed. -/
theorem buttonInv_trackHold {b : ButtonState} (c : Config) (now : Time) (hb : ButtonInv b) :
    ButtonInv (b.trackHold c now) := by
  unfold ButtonState.trackHold
  split
  · next hdeb => exact ⟨fun hup => absurd (hdeb.symm.trans hup) nofun, hb.2⟩
  · exact hb

theorem buttonInv_tick {b : ButtonState} (c : Config) (rawSample : Bool) (now : Time)
    (hb : ButtonInv b) : ButtonInv (b.tick c rawSample now) :=
  buttonInv_trackHold c now (buttonInv_debounce c now (buttonInv_sample rawSample now hb))

theorem buttonInv_clearHeld {b : ButtonState} (hb : ButtonInv b) : ButtonInv b.clearHeld := by
  obtain ⟨hreleased, hpressed⟩ := hb
  refine ⟨fun hup => ?_, hpressed⟩
  obtain ⟨hreported, hduration, -⟩ := hreleased hup
  exact ⟨hreported, hduration, rfl⟩

/-- Of the four flags only `held` stands in the invariant. -/
theorem buttonInv_clearFlags {b : ButtonState} (hb : ButtonInv b) : ButtonInv b.clearFlags :=
  buttonInv_clearHeld (b := b.clearPressed.clearReleased) hb

theorem exec_keeps_buttonInv {i : Instr} {s t : State} (h : exec i s = .next t)
    (hb : ButtonInv s.bs) : ButtonInv t.bs := by
  cases i with
  | buttonTick rawSample now => cases h; exact buttonInv_tick s.cfg rawSample now hb
  | readHeld => cases h; exact buttonInv_clearHeld hb
  | tick now frames rawSample =>
    cases h
    exact buttonInv_clearFlags (buttonInv_tick s.cfg rawSample now hb)
  | reset => cases h; exact buttonInv_reset
  | _ => cases h; exact hb

/-! ### The pins (R31, R134) -/

/-- Settles O49: every other operation's next state is built without a write of `PIN`. -/
theorem pinsMoveOnlyByApplyPins : Obligations.PinsMoveOnlyByApplyPins := by
  intro i s
  obtain ⟨t, ht⟩ := exec_eq_next i s
  refine ⟨t, ht, fun hmoved => ?_⟩
  cases i with
  | applyPins => exact .inl rfl
  | reset => exact .inr (.inl rfl)
  | tick now frames rawSample => exact .inr (.inr ⟨now, frames, rawSample, rfl⟩)
  | _ => cases ht; exact absurd rfl hmoved

/-- OUTPUT_TICK computes targets and leaves the previous-tick copies. -/
@[simp] theorem OutputState.drive_prevLight (o : OutputState) (c : Config) (h : Bool) (now : Time)
    (v : VehicleState) :
    (o.drive c h now v).prevLight = o.prevLight := by
  rw [OutputState.drive, OutputState.updateLatch_eq]

@[simp] theorem OutputState.drive_prevLatch (o : OutputState) (c : Config) (h : Bool) (now : Time)
    (v : VehicleState) :
    (o.drive c h now v).prevLatch = o.prevLatch := by
  rw [OutputState.drive, OutputState.updateLatch_eq]

/-- A level-set call that is left out is one the pin does not need, when the pins hold the levels of the
previous tick. -/
theorem PinState.follow_eq_levels {p : PinState} {o : OutputState} (hlight : p.light = o.prevLight)
    (hlatch : p.latch = o.prevLatch) : p.follow o = ⟨o.light, o.latch⟩ := by
  simp only [PinState.follow, PinState.mk.injEq, ite_eq_right_iff]
  exact ⟨fun h => hlight.trans h.symm, fun h => hlatch.trans h.symm⟩

/-- The pins follow the targets of an OUTPUT_TICK, which compares nothing itself. -/
theorem PinState.follow_drive {p : PinState} {o : OutputState} (hlight : p.light = o.prevLight)
    (hlatch : p.latch = o.prevLatch) (c : Config) (h : Bool) (now : Time) (v : VehicleState) :
    p.follow (o.drive c h now v) = ⟨(o.drive c h now v).light, (o.drive c h now v).latch⟩ :=
  PinState.follow_eq_levels (by simpa using hlight) (by simpa using hlatch)

theorem exec_keeps_pinInv {i : Instr} {s t : State} (h : exec i s = .next t) (hp : PinInv s) :
    PinInv t := by
  obtain ⟨hlight, hlatch⟩ := hp
  cases i with
  | outputTick hold dc now => cases h; simp [PinInv, hlight, hlatch]
  | applyPins => cases h; simp [PinInv, PinState.follow_eq_levels hlight hlatch, OutputState.copyLevels]
  | tick now frames rawSample =>
    cases h
    simp [PinInv, PinState.follow_drive hlight hlatch, OutputState.copyLevels]
  | reset => cases h; exact ⟨rfl, rfl⟩
  | _ => cases h; exact ⟨hlight, hlatch⟩

/-- R31's last sentence: the level-set calls are the changes of the pins. -/
theorem OutputState.events_eq_pinChanges {p : PinState} {o : OutputState} (hlight : p.light = o.prevLight)
    (hlatch : p.latch = o.prevLatch) :
    o.events = (if (p.follow o).light = p.light then [] else [.setLight (p.follow o).light]) ++
      (if (p.follow o).latch = p.latch then [] else [.setLatch (p.follow o).latch]) := by
  rw [PinState.follow_eq_levels hlight hlatch, hlight, hlatch]
  rfl

/-- Settles O52: a tick's OUTPUT_TICK keeps the previous-tick copies, so the APPLY_PINS that ends the tick
compares the new targets with the levels of the pins. -/
theorem tickSettlesThePins : Obligations.TickSettlesThePins := by
  rintro now frames rawSample s ⟨hlight, hlatch⟩
  refine ⟨_, _, _, _, _, rfl, ?light, rfl, ?latch, rfl, congrArg (Response.tick · _ _ _ _) ?events⟩
  case light => simp [PinState.follow_drive hlight hlatch, OutputState.copyLevels]
  case latch => simp [PinState.follow_drive hlight hlatch, OutputState.copyLevels]
  case events => exact OutputState.events_eq_pinChanges (by simpa using hlight) (by simpa using hlatch)

/-! ### The whole invariant -/

theorem exec_keeps_inv {i : Instr} {s t : State} (hi : CarriesDecoderRecord i) (h : exec i s = .next t)
    (hs : s.Inv) : t.Inv := by
  obtain ⟨hvehicle, hrange, hbutton, hpin⟩ := hs
  exact ⟨vehicleInv_kept.exec_keeps hi h hvehicle, vehicleRange_kept.exec_keeps hi h hrange,
    exec_keeps_buttonInv h hbutton, exec_keeps_pinInv h hpin⟩

/-- Taking a stimulus changes nothing of the block. -/
theorem fetch_sameBlock {s u : State} {i : Instr} (h : fetch s = .ok (i, u)) : SameBlock s u := by
  obtain ⟨-, -, rfl⟩ | ⟨rest, -, rfl⟩ := fetch_ok_cases h
  · exact ⟨rfl, rfl, rfl, rfl⟩
  · exact ⟨rfl, rfl, rfl, rfl⟩

/-- The decoder refuses every record that no frame decoder outputs (log entry 13). -/
theorem fetch_carriesDecoderRecord {s u : State} {i : Instr} (h : fetch s = .ok (i, u)) :
    CarriesDecoderRecord i := by
  obtain ⟨-, rfl, -⟩ | ⟨rest, hdecode, -⟩ := fetch_ok_cases h
  · trivial
  · exact Laws.carriesDecoderRecord_of_wellFormed (Laws.decode_wellFormed hdecode)

theorem inv_of_sameBlock {s u : State} (h : SameBlock s u) (hs : s.Inv) : u.Inv := by
  obtain ⟨hvs, hbs, hos, hpin⟩ := h
  simpa only [State.Inv, PinInv, hvs, hbs, hos, hpin] using hs

/-- Settles O56: a step runs one operation on the block as it was, and the bytes presented decode only to
operations that keep the invariant. -/
theorem everyStepKeepsTheInvariant : Obligations.EveryStepKeepsTheInvariant := by
  intro s t hs hstep
  obtain ⟨-, i, u, hfetch, hexec⟩ := step_next_cases hstep
  exact exec_keeps_inv (fetch_carriesDecoderRecord hfetch) hexec
    (inv_of_sameBlock (fetch_sameBlock hfetch) hs)

/-- Settles O57: every operation completes, and the records' invariants are kept each by itself. -/
theorem everyOperationKeepsTheInvariant : Obligations.EveryOperationKeepsTheInvariant := by
  intro i s hi
  obtain ⟨t, ht⟩ := exec_eq_next i s
  exact ⟨t, ht, vehicleRange_kept.exec_keeps hi ht, exec_keeps_inv hi ht⟩

/-! ### Reset (R34) -/

/-- Settles O55: each record's reset value meets that record's part of the invariant. -/
theorem resetMeetsTheInvariant : Obligations.ResetMeetsTheInvariant :=
  ⟨vehicleInv_kept.reset, vehicleRange_kept.reset, buttonInv_reset, rfl, rfl⟩

/-- Settles O58: RESET and the start state share the four reset records, which hold R34's values. -/
theorem resetWritesTheResetTable : Obligations.ResetWritesTheResetTable :=
  ⟨fun _ => rfl, rfl, rfl, rfl, rfl⟩

end Sys2Proof.Machine
end

section
/-! PROOFS. The field that EXTRACT reads from a frame's bytes (20_memory.md R41 to R43, 40_extract.md R76). -/

namespace Sys2Proof.Machine

/-- The mask `2^width - 1` has exactly its low `width` bits set. -/
theorem testBit_fieldMask (width : Byte) (i : Nat) :
    (fieldMask width).testBit i = decide (i < width.toNat) :=
  Nat.testBit_two_pow_sub_one _ _

/-- The shift moves the view down to the field and the mask cuts it to `width`. A field in range is no wider
than the view, so the cut to 64 bits takes nothing. -/
theorem extractField_getLsbD (buf : Buffer) (position width : Byte) (i : Nat) :
    (extractField buf position width).getLsbD i =
      (fieldInRange position width && decide (i < width.toNat) &&
        (memRead buf).getLsbD (fieldShift position width + i)) := by
  unfold extractField
  split
  · next hrange =>
    have hview : i < width.toNat → i < 64 := by
      obtain ⟨hposition, hwidth⟩ := (fieldInRange_iff position width).mp hrange
      omega
    simp only [BitVec.getLsbD_ofNat, Nat.testBit_and, Nat.testBit_shiftRight, testBit_fieldMask,
      BitVec.testBit_toNat, hrange]
    by_cases hi : i < width.toNat
    · simp [hi, hview hi]
    · simp [hi]
  · next hrange => simp [hrange]

/-- Settles O11: EXTRACT's response is the field of the 64-bit view, whose bit `q` is bit `q mod 8` of byte
`q div 8`. -/
theorem extractReturnsTheBitsOfTheField : Obligations.ExtractReturnsTheBitsOfTheField := by
  intro buf position width s
  refine ⟨extractField buf position width, rfl, fun i _ => ?_⟩
  have hguard : (fieldInRange position width && decide (i < width.toNat)) =
      decide (position.toNat < 64 ∧ width.toNat ≤ position.toNat + 1 ∧ i < width.toNat) := by
    rw [Bool.eq_iff_iff, Bool.and_eq_true, fieldInRange_iff, decide_eq_true_eq, decide_eq_true_eq]
    omega
  rw [extractField_getLsbD, hguard, memRead_getLsbD, fieldShift]

end Sys2Proof.Machine
end

section
/-! PROOFS. Headers and the decoders they select (30_encoding.md R56, R57, R66; 41_frame_decode.md R83), and a
tick's frames whose header selects none (R138). -/

namespace Sys2Proof.Machine

/-! ### The rows a header word selects (R57) -/

theorem frameRows_mask {r : FrameRow} (hr : r ∈ frameRows) : r.mask = BitVec.allOnes 36 := by
  revert r
  decide

/-- Under a full mask a row is selected by its pattern alone. -/
theorem FrameRow.selectedBy_eq {r : FrameRow} (hr : r ∈ frameRows) (h : BitVec 36) :
    r.selectedBy h = (r.pattern == h) := by
  rw [FrameRow.selectedBy, frameRows_mask hr, BitVec.and_allOnes, BEq.comm]

/-- No two rows share a pattern. -/
theorem frameRows_patterns_nodup : (frameRows.map FrameRow.pattern).Nodup := by
  decide

theorem selectedRows_length_le_one (h : BitVec 36) :
    (frameRows.filter (fun r => r.selectedBy h)).length ≤ 1 :=
  calc (frameRows.filter (fun r => r.selectedBy h)).length
      = (frameRows.filter (fun r => r.pattern == h)).length :=
        congrArg List.length (List.filter_congr fun _ hr => FrameRow.selectedBy_eq hr h)
    _ = (frameRows.map FrameRow.pattern).count h := by
        rw [← List.countP_eq_length_filter, List.count, List.countP_map]
        rfl
    _ ≤ 1 := List.nodup_iff_count_le_one.mp frameRows_patterns_nodup h

/-- The decoder of each of the four words, and none for any other. -/
theorem kindOfHeader_eq (h : BitVec 36) :
    kindOfHeader h =
      if h = 0x8000003C3 then .lamp else if h = 0x800000331 then .lock
      else if h = 0x800000176 then .park else if h = 0x80000043C then .soc else .none := by
  have hfind : frameRows.find? (fun r => r.selectedBy h) = frameRows.find? (fun r => r.pattern == h) :=
    List.find?_congr fun _ hr => FrameRow.selectedBy_eq hr h
  rw [kindOfHeader, hfind]
  simp only [frameRows, List.find?_cons, List.find?_nil, beq_eq_decide, eq_comm (b := h)]
  split_ifs <;> simp_all

theorem kindOfHeader_ne_none_iff (h : BitVec 36) :
    kindOfHeader h ≠ .none ↔ h ∈ [0x8000003C3, 0x800000331, 0x800000176, 0x80000043C] := by
  simp only [kindOfHeader_eq, List.mem_cons, List.not_mem_nil, or_false]
  split_ifs <;> simp_all

/-! ### The header word and its two fields (R56) -/

/-- A header word holds its two fields apart. -/
theorem headerWord_inj {i j : BitVec 32} {l m : BitVec 4} :
    headerWord i l = headerWord j m ↔ l = m ∧ i = j := by
  constructor
  · intro h
    have hlength := congrArg (BitVec.extractLsb' 32 4) h
    have hidentifier := congrArg (BitVec.extractLsb' 0 32) h
    rw [headerWord, headerWord, BitVec.extractLsb'_append_eq_left, BitVec.extractLsb'_append_eq_left] at hlength
    rw [headerWord, headerWord, BitVec.extractLsb'_append_eq_right, BitVec.extractLsb'_append_eq_right]
      at hidentifier
    exact ⟨hlength, hidentifier⟩
  · rintro ⟨rfl, rfl⟩
    rfl

/-- A word written out, compared by its fields. -/
theorem headerWord_eq_iff {i j : BitVec 32} {l m : BitVec 4} {w : BitVec 36} (hw : headerWord j m = w) :
    headerWord i l = w ↔ l = m ∧ i = j := by
  rw [← hw, headerWord_inj]

/-- CLASSIFY with its constants written out (R58). -/
theorem classify_eq (i : BitVec 32) (l : BitVec 4) :
    classify i l =
      if l ≠ 8 then .none
      else if i = 0x3C3 then .lamp
      else if i = 0x331 then .lock
      else if i = 0x176 then .park
      else if i = 0x43C then .soc
      else .none :=
  rfl

/-- Comparing the word is comparing its two fields. -/
theorem kindOfHeader_headerWord (i : BitVec 32) (l : BitVec 4) :
    kindOfHeader (headerWord i l) = classify i l := by
  rw [kindOfHeader_eq, classify_eq]
  have hlamp : headerWord 0x3C3 8 = 0x8000003C3 := rfl
  have hlock : headerWord 0x331 8 = 0x800000331 := rfl
  have hpark : headerWord 0x176 8 = 0x800000176 := rfl
  have hsoc : headerWord 0x43C 8 = 0x80000043C := rfl
  simp only [headerWord_eq_iff hlamp, headerWord_eq_iff hlock, headerWord_eq_iff hpark,
    headerWord_eq_iff hsoc]
  by_cases hlength : l = 8
  · simp only [hlength, true_and, ne_eq, not_true, if_false]
  · simp only [hlength, false_and, ne_eq, not_false_iff, if_true, if_false]

/-- The headers R57 accepts, by their two fields. -/
def HeaderAccepted (i : BitVec 32) (l : BitVec 4) : Prop :=
  l = 8 ∧ (i = 0x3C3 ∨ i = 0x331 ∨ i = 0x176 ∨ i = 0x43C)

theorem classify_ne_none_iff (i : BitVec 32) (l : BitVec 4) :
    classify i l ≠ .none ↔ HeaderAccepted i l := by
  rw [classify_eq, HeaderAccepted]
  split_ifs <;> simp_all

theorem classify_eq_none {i : BitVec 32} {l : BitVec 4} (h : ¬ HeaderAccepted i l) :
    classify i l = .none :=
  not_not.mp fun hne => h ((classify_ne_none_iff i l).mp hne)

/-- Settles O3: on the word as on its fields, the length and one of the four identifiers decide. -/
theorem classifyAgreesWithHeaderRows : Obligations.ClassifyAgreesWithHeaderRows := by
  intro identifier length s
  rw [kindOfHeader_headerWord]
  rfl

/-! ### The operation a frame selects (R57, R66) -/

/-- The row of the operation table that belongs to a kind of frame. -/
def decoderInstr (k : FrameKind) (f : Frame) : Instr :=
  match k with
  | .lamp => .decodeLamp f
  | .lock => .decodeLock f
  | .park => .decodePark f
  | .soc => .decodeSoc f
  | .none => .frameIgnored f

theorem frameInstr_of_kind {f : Frame} {k : FrameKind}
    (h : kindOfHeader (headerWord f.identifier f.length) = k) : frameInstr f = decoderInstr k f := by
  unfold frameInstr
  rw [h]
  cases k <;> rfl

theorem frameInstr_of_classify {f : Frame} {k : FrameKind} (h : classify f.identifier f.length = k) :
    frameInstr f = decoderInstr k f :=
  frameInstr_of_kind ((kindOfHeader_headerWord f.identifier f.length).trans h)

theorem frameInstr_of_header {f : Frame} {i : BitVec 32} {l : BitVec 4} {k : FrameKind}
    (hkind : classify i l = k) (h : f.length = l ∧ f.identifier = i) : frameInstr f = decoderInstr k f := by
  obtain ⟨rfl, rfl⟩ := h
  exact frameInstr_of_classify hkind

/-- Settles O23: the meaning of the row hands the state back unread. -/
theorem ignoredFrameChangesNothing : Obligations.IgnoredFrameChangesNothing :=
  fun _ _ => rfl

/-- Settles O2: the rows have full masks and distinct patterns, and a word without a row runs
FRAME_IGNORED. -/
theorem headerRowsAcceptFourWords : Obligations.HeaderRowsAcceptFourWords := by
  intro identifier length
  refine ⟨?fields, kindOfHeader_ne_none_iff _, selectedRows_length_le_one _, fun _ => frameRows_mask,
    fun hnone data arrivalTime s => ?ignored⟩
  case fields =>
    rw [kindOfHeader_headerWord]
    exact classify_ne_none_iff identifier length
  case ignored =>
    rw [frameInstr_of_kind (f := ⟨identifier, length, data, arrivalTime⟩) hnone]
    exact ignoredFrameChangesNothing _ s

/-- Settles O4: a frame's bytes decode to the operation its header selects, which CLASSIFY names. -/
theorem everyFrameDecodes : Obligations.EveryFrameDecodes := by
  intro f rest
  exact ⟨frameInstr f, Laws.decode_putFrame f rest, Laws.frameInstr_wellFormed f,
    frameInstr_of_header (k := .lamp) rfl, frameInstr_of_header (k := .lock) rfl,
    frameInstr_of_header (k := .park) rfl, frameInstr_of_header (k := .soc) rfl,
    fun hnot => frameInstr_of_classify (classify_eq_none hnot)⟩

/-- A word whose bytes are those of a frame decodes to the row that the frame's header selects. -/
theorem decodeTableWord_of_frame {nbits w : Nat} {f : Frame} {k : FrameKind}
    (hbytes : stimulusOfWord nbits w = putFrame f) (hkind : classify f.identifier f.length = k) :
    decodeTableWord nbits w = some (decoderInstr k f) := by
  have hdecode := Laws.decode_putFrame f []
  rw [List.append_nil] at hdecode
  simp only [decodeTableWord, hbytes, hdecode, frameInstr_of_classify hkind]

/-- Settles O5: the bytes of each word are those of a frame with that header, no data and no arrival time. -/
theorem tableWordsDecodeToTheirRows : Obligations.TableWordsDecodeToTheirRows :=
  ⟨decodeTableWord_of_frame (k := .lamp) (f := ⟨0x3C3, 8, _, 0⟩) rfl rfl,
    decodeTableWord_of_frame (k := .lock) (f := ⟨0x331, 8, _, 0⟩) rfl rfl,
    decodeTableWord_of_frame (k := .park) (f := ⟨0x176, 8, _, 0⟩) rfl rfl,
    decodeTableWord_of_frame (k := .soc) (f := ⟨0x43C, 8, _, 0⟩) rfl rfl,
    decodeTableWord_of_frame (k := .none) (f := ⟨0x3C3, 7, _, 0⟩) rfl rfl⟩

/-! ### A tick's frames (R137, R138) -/

theorem dispatchFrame_of_classify_none {f : Frame} (h : classify f.identifier f.length = .none) :
    dispatchFrame f = .none := by
  rw [dispatchFrame, h]

/-- A list within the bound is read whole. -/
theorem batch_of_length_le {c : Config} {frames : List Frame} (h : frames.length ≤ c.frameBatchMax) :
    batch c frames = frames :=
  List.take_of_length_le h

theorem VehicleState.applyFrames_append (v : VehicleState) (fs gs : List Frame) (now : Time) :
    v.applyFrames (fs ++ gs) now = (v.applyFrames fs now).applyFrames gs now :=
  List.foldl_append

theorem VehicleState.applyFrames_cons (v : VehicleState) (f : Frame) (fs : List Frame) (now : Time) :
    v.applyFrames (f :: fs) now = (v.applyDecoded (dispatchFrame f) now).applyFrames fs now :=
  rfl

/-- R144, R145: a frame that no decoder takes is skipped wherever it stands. -/
theorem VehicleState.applyFrames_skip {f : Frame} (h : dispatchFrame f = .none) (v : VehicleState)
    (fs gs : List Frame) (now : Time) :
    v.applyFrames (fs ++ f :: gs) now = v.applyFrames (fs ++ gs) now := by
  rw [applyFrames_append, applyFrames_cons, h, applyFrames_append]
  rfl

/-- A tick reads its frames in phases 1 and 2 only. -/
theorem exec_tick_congr {s : State} {now : Time} {fs gs : List Frame} (rawSample : Bool)
    (h : s.vs.receive s.cfg now fs = s.vs.receive s.cfg now gs) :
    exec (.tick now fs rawSample) s = exec (.tick now gs rawSample) s := by
  simp only [exec, execTick, h]

/-- Settles O24: both lists are read whole, and the frame that no decoder takes is skipped. -/
theorem tickIgnoresUnacceptedFrames : Obligations.TickIgnoresUnacceptedFrames := by
  intro s now fs gs f rawSample hnot hlength
  have hskip : dispatchFrame f = .none := dispatchFrame_of_classify_none (classify_eq_none hnot)
  have hshorter : (fs ++ gs).length ≤ s.cfg.frameBatchMax := by
    simp only [List.length_append, List.length_cons] at hlength ⊢
    omega
  apply exec_tick_congr
  simp only [VehicleState.receive, batch_of_length_le hlength, batch_of_length_le hshorter,
    VehicleState.applyFrames_skip hskip]

end Sys2Proof.Machine
end

section
/-! PROOFS. The byte format of log entry 5 loses nothing: every well-formed operation's bytes decode to it. -/

namespace Sys2Proof.Machine

open Laws

/-! ### Reading operands one after the other -/

theorem ok_bind {α β : Type} (a : α) (f : α → Except DecodeError β) : (Except.ok a >>= f) = f a :=
  rfl

/-- A port whose operand is one frame. -/
theorem decode_framePort {port : BitVec 32} {mk : Frame → Instr}
    (hport : ∀ bs, decodePort port.toNat bs = takeFrame bs >>= fun x => .ok (mk x.1, x.2))
    (f : Frame) (rest : List Byte) : decode (putPort port ++ putFrame f ++ rest) = .ok (mk f, rest) := by
  rw [List.append_assoc, decode_putPort, hport, takeFrame_putFrame, ok_bind]

/-- A port whose operands are a record that its decoder outputs (R65) and a timer value. -/
theorem decode_applyPort {port : BitVec 32} {k : Signal} {mk : Record k → Time → Instr}
    (hport : ∀ bs, decodePort port.toNat bs =
      takeRecord k bs >>= fun x => take32 x.2 >>= fun y => .ok (mk x.1 y.1, y.2))
    {r : Record k} (hr : r.producible = true) (now : Time) (rest : List Byte) :
    decode (putPort port ++ putRecord r ++ put32 now ++ rest) = .ok (mk r now, rest) := by
  rw [List.append_assoc, List.append_assoc, decode_putPort, hport, takeRecord_putRecord r _ hr, ok_bind,
    take32_put32, ok_bind]

/-- A decoder's stimulus decodes to that decoder's row in both its forms: the bare frame that selects it,
and the call of its port on a frame that does not. -/
theorem decode_putDecoder {k : FrameKind} {port : BitVec 32}
    (hport : ∀ bs, decodePort port.toNat bs = takeFrame bs >>= fun x => .ok (decoderInstr k x.1, x.2))
    (f : Frame) (rest : List Byte) :
    decode (putDecoder k port f ++ rest) = .ok (decoderInstr k f, rest) := by
  unfold putDecoder
  split
  · next hkind => rw [decode_putFrame, frameInstr_of_kind hkind]
  · exact decode_framePort hport f rest

/-- The count of a well-formed tick's frames fits its 16 bits, so all of them are read. -/
theorem decode_tickPort (now : Time) (rawSample : Bool) {frames : List Frame}
    (hcount : frames.length < 65536) (rest : List Byte) :
    decode (encode (.tick now frames rawSample) ++ rest) = .ok (.tick now frames rawSample, rest) := by
  have hread : (BitVec.ofNat 16 frames.length).toNat = frames.length := Nat.mod_eq_of_lt hcount
  simp [encode, decode_putPort, decodePort, ok_bind, take32_put32, takeBit_putBit, take16_put16, hread,
    takeFrames_putFrames]

/-- Settles O1: a frame without a decoder decodes by its header, every other operation by its port, whose
operands are read in the order they were written. -/
theorem decodeEncodeRoundTrip : Obligations.DecodeEncodeRoundTrip := by
  intro i rest hi
  cases i with
  | decodeLamp f => exact decode_putDecoder (k := .lamp) (fun _ => rfl) f rest
  | decodeLock f => exact decode_putDecoder (k := .lock) (fun _ => rfl) f rest
  | decodePark f => exact decode_putDecoder (k := .park) (fun _ => rfl) f rest
  | decodeSoc f => exact decode_putDecoder (k := .soc) (fun _ => rfl) f rest
  | frameIgnored f => rw [encode, decode_putFrame, frameInstr_of_kind hi, decoderInstr]
  | extract buf position width =>
    simp [encode, decode_putPort, decodePort, ok_bind, takeBuffer_putBuffer, takeByte]
  | classify identifier length =>
    simpa [encode, decode_putPort, decodePort, ok_bind, takeHead_putHeader]
      using length_class_zero length
  | decodeFrame f => exact decode_framePort (fun _ => rfl) f rest
  | applyLamp r now => exact decode_applyPort (fun _ => rfl) hi now rest
  | applyLock r now => exact decode_applyPort (fun _ => rfl) hi now rest
  | applyPark r now => exact decode_applyPort (fun _ => rfl) hi now rest
  | applySoc r now => exact decode_applyPort (fun _ => rfl) hi now rest
  | recomputeReadiness now => simp [encode, decode_putPort, decodePort, ok_bind, take32_put32]
  | clearOverride => exact decode_putPort 14 rest
  | buttonTick rawSample now =>
    simp [encode, decode_putPort, decodePort, ok_bind, takeBit_putBit, take32_put32]
  | readPressed => exact decode_putPort 16 rest
  | readReleased => exact decode_putPort 17 rest
  | readHeld => exact decode_putPort 18 rest
  | readDoubleClick => exact decode_putPort 19 rest
  | outputTick h dc now =>
    simp [encode, decode_putPort, decodePort, ok_bind, takeBit_putBit, take32_put32]
  | applyPins => exact decode_putPort 21 rest
  | tick now frames rawSample => exact decode_tickPort now rawSample hi rest
  | reset => exact decode_putPort 23 rest

end Sys2Proof.Machine
end

section
/-! PROOFS. EXTRACT as arithmetic on the 64-bit view, its bound and corner cases, and the round trip with PACK
(40_extract.md R77 to R79, R82). -/

namespace Sys2Proof.Machine

theorem exec_extract (buf : Buffer) (position width : Byte) (s : State) :
    exec (.extract buf position width) s = .next { s with out := .value (extractField buf position width) } :=
  rfl

/-! ### The value as arithmetic over the naturals (R7) -/

/-- The concatenation's value: each byte on the right is an addend below the unit of what stands on its
left. -/
theorem toNat_append_eq_add {m n : Nat} (x : BitVec m) (y : BitVec n) :
    (x ++ y).toNat = y.toNat + x.toNat * 2 ^ n := by
  rw [BitVec.toNat_append, ← Nat.shiftLeft_add_eq_or_of_lt y.isLt, Nat.shiftLeft_eq, Nat.add_comm]

/-- R41: the view is the little-endian sum of the bytes. -/
theorem memRead_toNat (b : Buffer) :
    (memRead b).toNat =
      b.b0.toNat + b.b1.toNat * 2 ^ 8 + b.b2.toNat * 2 ^ 16 + b.b3.toNat * 2 ^ 24 + b.b4.toNat * 2 ^ 32 +
        b.b5.toNat * 2 ^ 40 + b.b6.toNat * 2 ^ 48 + b.b7.toNat * 2 ^ 56 := by
  unfold memRead
  simp only [toNat_append_eq_add]
  omega

/-- R76: no bits are read outside the view. -/
theorem extractField_of_not_inRange {buf : Buffer} {position width : Byte}
    (h : ¬(position.toNat ≤ 63 ∧ width.toNat ≤ position.toNat + 1)) : extractField buf position width = 0 :=
  if_neg (mt (fieldInRange_iff position width).mp h)

/-- R77: the shift is a division and the mask a remainder; neither exceeds the view, so 64 bits hold the
result. -/
theorem extractField_toNat_of_inRange {buf : Buffer} {position width : Byte}
    (h : position.toNat ≤ 63 ∧ width.toNat ≤ position.toNat + 1) :
    (extractField buf position width).toNat =
      (memRead buf).toNat / 2 ^ (position.toNat + 1 - width.toNat) % 2 ^ width.toNat := by
  have hfits : (memRead buf).toNat / 2 ^ (position.toNat + 1 - width.toNat) % 2 ^ width.toNat < 2 ^ 64 :=
    ((Nat.mod_le _ _).trans (Nat.div_le_self _ _)).trans_lt (memRead buf).isLt
  rw [extractField, if_pos ((fieldInRange_iff position width).mpr h), BitVec.toNat_ofNat, fieldMask,
    fieldShift, Nat.and_two_pow_sub_one_eq_mod, Nat.shiftRight_eq_div_pow, Nat.mod_eq_of_lt hfits]

/-- Settles O12: EXTRACT divides and cuts the view, which is the sum of the bytes. -/
theorem extractIsShiftAndMaskOfTheLittleEndianSum :
    Obligations.ExtractIsShiftAndMaskOfTheLittleEndianSum := by
  intro buf position width s
  refine ⟨_, exec_extract buf position width s, ?_⟩
  split
  · next h => rw [extractField_toNat_of_inRange h, memRead_toNat]
  · next h => rw [extractField_of_not_inRange h]; rfl

/-! ### The bound (R78) -/

/-- The widest field a decoder reads is the state of charge's. -/
theorem descriptor_width_le (k : Signal) : (descriptor k).width.toNat ≤ 7 := by
  cases k <;> decide

/-- The 8 bits a decoder keeps hold every field of at most 8 bits. -/
theorem extractField_setWidth_toNat (buf : Buffer) (position : Byte) {width : Byte} (h : width.toNat ≤ 8) :
    ((extractField buf position width).setWidth 8).toNat = (extractField buf position width).toNat := by
  have hlt : (extractField buf position width).toNat < 2 ^ 8 :=
    (extractField_toNat_lt buf position width).trans_le (Nat.pow_le_pow_right Nat.two_pos h)
  rw [BitVec.toNat_setWidth, Nat.mod_eq_of_lt hlt]

/-- Settles O13: the mask bounds the value, and no descriptor's field is wider than the 8 bits kept. -/
theorem extractResultIsBounded : Obligations.ExtractResultIsBounded := by
  intro buf position width s
  exact ⟨_, exec_extract buf position width s, extractField_toNat_lt buf position width,
    extractField_of_not_inRange, descriptor_width_le,
    fun h => extractField_setWidth_toNat buf position (h.trans (by decide))⟩

/-! ### The corner cases (R79) -/

/-- (a): a field without bits. -/
theorem extractField_of_width_zero {buf : Buffer} {position width : Byte} (h : width.toNat = 0) :
    extractField buf position width = 0 := by
  have hlt := extractField_toNat_lt buf position width
  rw [h] at hlt
  exact BitVec.eq_of_toNat_eq (Nat.lt_one_iff.mp hlt)

/-- (e): a field that reaches down to bit 0 is not shifted. -/
theorem extractField_toNat_of_full {buf : Buffer} {position width : Byte} (hposition : position.toNat < 64)
    (hwidth : width.toNat = position.toNat + 1) :
    (extractField buf position width).toNat = (memRead buf).toNat % 2 ^ width.toNat := by
  rw [extractField_toNat_of_inRange (by omega), hwidth, Nat.sub_self, pow_zero, Nat.div_one]

/-- (b): the field that is the whole view. -/
theorem extractField_of_whole_view {buf : Buffer} {position width : Byte} (hposition : position.toNat = 63)
    (hwidth : width.toNat = 64) : extractField buf position width = memRead buf := by
  apply BitVec.eq_of_toNat_eq
  rw [extractField_toNat_of_full (by omega) (by omega), hwidth, Nat.mod_eq_of_lt (memRead buf).isLt]

/-- (i): a field of one bit. -/
theorem extractField_toNat_of_width_one {buf : Buffer} {position width : Byte}
    (hposition : position.toNat < 64) (hwidth : width.toNat = 1) :
    (extractField buf position width).toNat = ((memRead buf).getLsbD position.toNat).toNat := by
  rw [extractField_toNat_of_inRange (by omega), hwidth, Nat.add_sub_cancel, pow_one, ← Nat.toNat_testBit,
    BitVec.testBit_toNat]

/-- Settles O14: (c), (d) and (f) are accesses out of range; the others are the lemmas above. -/
theorem extractCornerCases : Obligations.ExtractCornerCases := by
  intro buf position width s
  exact ⟨_, exec_extract buf position width s,
    extractField_of_width_zero,
    extractField_of_whole_view,
    fun hwide => extractField_of_not_inRange (by omega),
    fun hhigh => extractField_of_not_inRange (by omega),
    extractField_toNat_of_full,
    fun hwide => extractField_of_not_inRange (by omega),
    extractField_toNat_of_width_one⟩

/-! ### PACK (R81, R82) -/

/-- PACK's view: the field's bits are those of the value, every other bit is the buffer's. -/
theorem memRead_pack_getLsbD (buf : Buffer) (position width : Byte) (v : Nat) {q : Nat} (hq : q < 64) :
    (memRead (pack buf position width v)).getLsbD q =
      if fieldShift position width ≤ q ∧ q < fieldShift position width + width.toNat then
        v.testBit (q - fieldShift position width)
      else (memRead buf).getLsbD q := by
  have hsub : q - fieldShift position width < 64 := (Nat.sub_le _ _).trans_lt hq
  simp only [pack, memRead_memWrite, BitVec.getLsbD_or, BitVec.getLsbD_and, BitVec.getLsbD_not,
    BitVec.getLsbD_shiftLeft, BitVec.getLsbD_ofNat, Nat.testBit_and, testBit_fieldMask, hq, hsub,
    decide_true, Bool.true_and]
  by_cases hlow : fieldShift position width ≤ q
  · by_cases hhigh : q < fieldShift position width + width.toNat
    · have hin : q - fieldShift position width < width.toNat := by omega
      simp [hlow, Nat.not_lt.mpr hlow, hhigh, hin]
    · have hout : ¬ q - fieldShift position width < width.toNat := by omega
      simp [hhigh, hout]
  · simp [hlow, Nat.lt_of_not_le hlow]

/-- What PACK writes EXTRACT reads back, cut to the width. -/
theorem extractField_pack {position width : Byte} (buf : Buffer) (v : Nat) (hposition : position.toNat ≤ 63)
    (hwidth : width.toNat ≤ position.toNat + 1) :
    extractField (pack buf position width v) position width = BitVec.ofNat 64 (v % 2 ^ width.toNat) := by
  apply BitVec.eq_of_getLsbD_eq
  intro i hi
  rw [extractField_getLsbD, (fieldInRange_iff position width).mpr ⟨hposition, hwidth⟩, BitVec.getLsbD_ofNat,
    Nat.testBit_mod_two_pow]
  by_cases hin : i < width.toNat
  · have hview : fieldShift position width + i < 64 := by
      unfold fieldShift
      omega
    simp [memRead_pack_getLsbD buf position width v hview, hin, hi]
  · simp [hin]

/-- EXTRACT reads nothing but the bits of its field. -/
theorem extractField_congr {a b : Buffer} {position width : Byte}
    (h : ∀ q, fieldShift position width ≤ q → q ≤ position.toNat → q < 64 →
      (memRead a).getLsbD q = (memRead b).getLsbD q) :
    extractField a position width = extractField b position width := by
  apply BitVec.eq_of_getLsbD_eq
  intro i _
  rw [extractField_getLsbD, extractField_getLsbD]
  by_cases hread : (fieldInRange position width && decide (i < width.toNat)) = true
  · rw [Bool.and_eq_true, fieldInRange_iff, decide_eq_true_eq] at hread
    have htop : fieldShift position width + i ≤ position.toNat := by
      unfold fieldShift
      omega
    rw [h _ (Nat.le_add_right _ _) htop (by omega)]
  · rw [Bool.eq_false_of_not_eq_true hread, Bool.false_and, Bool.false_and]

/-- A field that lies below or above the packed one is read as before. -/
theorem extractField_pack_of_disjoint {position width p2 w2 : Byte} (buf : Buffer) (v : Nat)
    (hwidth : width.toNat ≤ position.toNat + 1)
    (hdisjoint : p2.toNat < fieldShift position width ∨ position.toNat < fieldShift p2 w2) :
    extractField (pack buf position width v) p2 w2 = extractField buf p2 w2 := by
  apply extractField_congr
  intro q hlow hhigh hq
  have hend : fieldShift position width + width.toNat = position.toNat + 1 := Nat.sub_add_cancel hwidth
  rw [memRead_pack_getLsbD buf position width v hq, if_neg (by omega)]

/-- Settles O15: EXTRACT sees only the bits of its own field, which PACK has written or has left alone. -/
theorem packThenExtractRoundTrip : Obligations.PackThenExtractRoundTrip := by
  intro buf position width v s hposition _ hwidth
  refine ⟨?_, fun p2 w2 _ _ _ hdisjoint => ?_⟩
  · rw [exec_extract, extractField_pack buf v hposition hwidth]
  · rw [exec_extract, exec_extract, extractField_pack_of_disjoint buf v hwidth hdisjoint]

end Sys2Proof.Machine
end

section
/-! PROOFS. CLASSIFY, the four decoders and their dispatch (41_frame_decode.md R83 to R91), and the four
decoders' records applied one after the other (R91). -/

namespace Sys2Proof.Machine

/-- Settles O16: the model's constants are the literals of the statement. -/
theorem classifyResult : Obligations.ClassifyResult := by
  intro identifier length s
  rw [← classify_eq]
  rfl

/-! ### A field as an expression over the bytes that hold it -/

/-- A field of at most 8 bits that starts at bit `r` of byte `j` and ends in the same byte. -/
theorem extractField_within_byte {position width : Byte} (buf : Buffer) (j r : Nat)
    (hrange : fieldInRange position width = true) (hshift : fieldShift position width = 8 * j + r)
    (hend : r + width.toNat ≤ 8) :
    (extractField buf position width).setWidth 8 = (buf.byte j >>> r) &&& BitVec.ofNat 8 (fieldMask width) := by
  apply BitVec.eq_of_getLsbD_eq
  intro i hi
  simp only [BitVec.getLsbD_setWidth, BitVec.getLsbD_and, BitVec.getLsbD_ushiftRight, BitVec.getLsbD_ofNat,
    extractField_getLsbD, testBit_fieldMask, memRead_getLsbD, hrange, hshift, hi, decide_true, Bool.true_and]
  by_cases hin : i < width.toNat
  · have hbyte : (8 * j + r + i) / 8 = j := by omega
    have hbit : (8 * j + r + i) % 8 = r + i := by omega
    rw [hbyte, hbit, Bool.and_comm]
  · simp [hin]

/-- A field of at most 8 bits that starts at bit `r` of byte `j` and ends in the byte above: that byte's low
bits stand above the `8 - r` bits of byte `j`. -/
theorem extractField_across_bytes {position width : Byte} (buf : Buffer) (j r : Nat)
    (hrange : fieldInRange position width = true) (hshift : fieldShift position width = 8 * j + r)
    (hr : r < 8) (hwidth : width.toNat ≤ 8) (hend : 8 ≤ r + width.toNat) :
    (extractField buf position width).setWidth 8 =
      ((buf.byte (j + 1) &&& BitVec.ofNat 8 (2 ^ (r + width.toNat - 8) - 1)) <<< (8 - r)) |||
        (buf.byte j >>> r) := by
  apply BitVec.eq_of_getLsbD_eq
  intro i hi
  simp only [BitVec.getLsbD_setWidth, BitVec.getLsbD_or, BitVec.getLsbD_shiftLeft, BitVec.getLsbD_and,
    BitVec.getLsbD_ushiftRight, BitVec.getLsbD_ofNat, extractField_getLsbD, Nat.testBit_two_pow_sub_one,
    memRead_getLsbD, hrange, hshift, hi, decide_true, Bool.true_and]
  by_cases hlow : i < 8 - r
  · have hin : i < width.toNat := by omega
    have hbyte : (8 * j + r + i) / 8 = j := by omega
    have hbit : (8 * j + r + i) % 8 = r + i := by omega
    simp [hlow, hin, hbyte, hbit]
  · have hbyte : (8 * j + r + i) / 8 = j + 1 := by omega
    have hbit : (8 * j + r + i) % 8 = i - (8 - r) := by omega
    have hhigh : (buf.byte j).getLsbD (r + i) = false := BitVec.getLsbD_of_ge _ _ (by omega)
    have hmask : i - (8 - r) < r + width.toNat - 8 ↔ i < width.toNat := by omega
    have hsub : i - (8 - r) < 8 := by omega
    simp [hlow, hbyte, hbit, hhigh, hmask, hsub, Bool.and_comm]

/-- The value a decoder reads, as the spec writes it over the data bytes (R85 to R88). -/
def fieldValue (k : Signal) (data : Buffer) : Byte :=
  match k with
  | .lamp => (data.b1 >>> 3) &&& 0x03
  | .lock => (data.b4 >>> 2) &&& 0x03
  | .park => ((data.b4 &&& 0x07) <<< 1) ||| (data.b3 >>> 7)
  | .soc => ((data.b3 &&& 0x1F) <<< 2) ||| (data.b2 >>> 6)

/-- Each descriptor of R60 names the bits of its byte expression. -/
theorem extractField_descriptor (k : Signal) (data : Buffer) :
    (extractField data (descriptor k).position (descriptor k).width).setWidth 8 = fieldValue k data := by
  cases k with
  | lamp => exact extractField_within_byte data 1 3 rfl rfl (by decide)
  | lock => exact extractField_within_byte data 4 2 rfl rfl (by decide)
  | park => exact extractField_across_bytes data 3 7 rfl rfl (by decide) (by decide) (by decide)
  | soc => exact extractField_across_bytes data 2 6 rfl rfl (by decide) (by decide) (by decide)

/-! ### The four decoders (R84 to R89) -/

/-- R84, R89: a decoder's record on every frame. -/
theorem decodeSignal_eq (k : Signal) (f : Frame) :
    decodeSignal k f =
      if f.identifier = (descriptor k).identifier ∧ f.length = 8 then ⟨true, fieldValue k f.data⟩
      else ⟨false, 0⟩ := by
  have hlength : frameLength = 8 := rfl
  simp only [decodeSignal, extractField_descriptor, hlength, ne_eq, ← not_and_or, ite_not]

/-- Settles O17: the decoder tests the header and its field, bits 12 and 11, lies in byte 1. -/
theorem decodeLampResult : Obligations.DecodeLampResult := fun f s =>
  congrArg (fun r => Host.Outcome.next (s.answer (.record .lamp r))) (decodeSignal_eq .lamp f)

/-- Settles O18: the field, bits 35 and 34, lies in byte 4. -/
theorem decodeLockResult : Obligations.DecodeLockResult := fun f s =>
  congrArg (fun r => Host.Outcome.next (s.answer (.record .lock r))) (decodeSignal_eq .lock f)

/-- Settles O19: the field, bits 34 to 31, lies across bytes 3 and 4. -/
theorem decodeParkResult : Obligations.DecodeParkResult := fun f s =>
  congrArg (fun r => Host.Outcome.next (s.answer (.record .park r))) (decodeSignal_eq .park f)

/-- Settles O20: the field, bits 28 to 22, lies across bytes 2 and 3. No value is shut out (D24). -/
theorem decodeSocResult : Obligations.DecodeSocResult := fun f s =>
  congrArg (fun r => Host.Outcome.next (s.answer (.record .soc r))) (decodeSignal_eq .soc f)

/-! ### The dispatch (R91) -/

/-- CLASSIFY's answer for a signal's frames. -/
def kindOfSignal : Signal → FrameKind
  | .lamp => .lamp
  | .lock => .lock
  | .park => .park
  | .soc => .soc

/-- CLASSIFY and the decoders make the same test: the identifiers of R58 differ from each other. -/
theorem classify_eq_kindOfSignal_iff (k : Signal) (i : BitVec 32) (l : BitVec 4) :
    classify i l = kindOfSignal k ↔ i = (descriptor k).identifier ∧ l = 8 := by
  rw [classify_eq]
  constructor
  · intro h
    split_ifs at h <;> cases k <;> simp_all [kindOfSignal, descriptor]
  · rintro ⟨rfl, rfl⟩
    cases k <;> rfl

theorem decodeSignal_of_classify_eq {k : Signal} {f : Frame}
    (h : classify f.identifier f.length = kindOfSignal k) :
    decodeSignal k f = ⟨true, fieldValue k f.data⟩ := by
  rw [decodeSignal_eq, if_pos ((classify_eq_kindOfSignal_iff k _ _).mp h)]

theorem decodeSignal_of_classify_ne {k : Signal} {f : Frame}
    (h : classify f.identifier f.length ≠ kindOfSignal k) : decodeSignal k f = ⟨false, 0⟩ := by
  rw [decodeSignal_eq, if_neg (mt (classify_eq_kindOfSignal_iff k _ _).mpr h)]

/-- DECODE_FRAME's answer on the data of a frame of the given kind. -/
def decodedOfKind (k : FrameKind) (data : Buffer) : Decoded :=
  match k with
  | .lamp => .lamp ⟨true, fieldValue .lamp data⟩
  | .lock => .lock ⟨true, fieldValue .lock data⟩
  | .park => .park ⟨true, fieldValue .park data⟩
  | .soc => .soc ⟨true, fieldValue .soc data⟩
  | .none => .none

theorem dispatchFrame_eq (f : Frame) :
    dispatchFrame f = decodedOfKind (classify f.identifier f.length) f.data := by
  unfold dispatchFrame
  split
  · next h => rw [decodeSignal_of_classify_eq (k := .lamp) h, h, decodedOfKind]
  · next h => rw [decodeSignal_of_classify_eq (k := .lock) h, h, decodedOfKind]
  · next h => rw [decodeSignal_of_classify_eq (k := .park) h, h, decodedOfKind]
  · next h => rw [decodeSignal_of_classify_eq (k := .soc) h, h, decodedOfKind]
  · next h => rw [h, decodedOfKind]

theorem exec_decodeFrame (f : Frame) (s : State) :
    exec (.decodeFrame f) s = .next { s with out := .decoded (dispatchFrame f) } :=
  rfl

/-- Settles O21: the dispatched decoder accepts the frame, so its record is the valid one. -/
theorem decodeFrameResult : Obligations.DecodeFrameResult := by
  intro f s
  rw [exec_decodeFrame, dispatchFrame_eq, classify_eq]
  split_ifs <;> rfl

/-! ### The records of all four decoders (R91, R102) -/

/-- The four APPLY operations of one frame, in the order of the signals, as updates of `VS`. -/
def applyFourDecoders (v : VehicleState) (f : Frame) (now : Time) : VehicleState :=
  (((v.applyLamp (decodeSignal .lamp f) now).applyLock (decodeSignal .lock f) now).applyPark
    (decodeSignal .park f) now).applySoc (decodeSignal .soc f) now

section
variable {f : Frame} (v : VehicleState) (now : Time)

/-! R102: the record of a decoder that refuses the frame is invalid, and an invalid record changes nothing. -/

theorem applyLamp_of_classify_ne (h : classify f.identifier f.length ≠ .lamp) :
    v.applyLamp (decodeSignal .lamp f) now = v := by
  rw [decodeSignal_of_classify_ne (k := .lamp) h]
  rfl

theorem applyLock_of_classify_ne (h : classify f.identifier f.length ≠ .lock) :
    v.applyLock (decodeSignal .lock f) now = v := by
  rw [decodeSignal_of_classify_ne (k := .lock) h]
  rfl

theorem applyPark_of_classify_ne (h : classify f.identifier f.length ≠ .park) :
    v.applyPark (decodeSignal .park f) now = v := by
  rw [decodeSignal_of_classify_ne (k := .park) h]
  rfl

theorem applySoc_of_classify_ne (h : classify f.identifier f.length ≠ .soc) :
    v.applySoc (decodeSignal .soc f) now = v := by
  rw [decodeSignal_of_classify_ne (k := .soc) h]
  rfl

end

/-- Only the decoder of the frame's own kind gives a valid record, and the dispatch selects that decoder. -/
theorem applyFourDecoders_eq (v : VehicleState) (f : Frame) (now : Time) :
    applyFourDecoders v f now = v.applyDecoded (dispatchFrame f) now := by
  unfold applyFourDecoders dispatchFrame
  cases hkind : classify f.identifier f.length <;>
    simp [hkind, applyLamp_of_classify_ne, applyLock_of_classify_ne, applyPark_of_classify_ne,
      applySoc_of_classify_ne, VehicleState.applyDecoded]

theorem runOps_fourDecoders (f : Frame) (now : Time) (s : State) :
    runOps [.applyLamp (decodeSignal .lamp f) now, .applyLock (decodeSignal .lock f) now,
        .applyPark (decodeSignal .park f) now, .applySoc (decodeSignal .soc f) now] s =
      .next ((s.setVs (applyFourDecoders s.vs f now)).answer .none) :=
  rfl

/-- The port calls of a frame write `VS` as a tick does for that frame, and nothing else of the block. -/
theorem runOps_frameOps (f : Frame) (now : Time) (s : State) :
    ∃ u, runOps (frameOps now f) s = .next u ∧
      SameBlock (s.setVs (s.vs.applyDecoded (dispatchFrame f) now)) u := by
  unfold frameOps dispatchFrame
  cases classify f.identifier f.length <;> exact ⟨_, rfl, rfl, rfl, rfl, rfl⟩

/-- Settles O22: the three records that the dispatch leaves out are invalid and change nothing. -/
theorem allFourDecodersEqualTheDispatch : Obligations.AllFourDecodersEqualTheDispatch := by
  intro f now s
  obtain ⟨u, hrun, hblock⟩ := runOps_frameOps f now s
  rw [← applyFourDecoders_eq] at hblock
  exact ⟨fun k => decodeSignal_producible k f, _, u, runOps_fourDecoders f now s, hrun, hblock⟩

end Sys2Proof.Machine
end

section
/-! PROOFS. The Vehicle State Tracker (42_vehicle_state.md): the four APPLY operations (R93 to R98, R102),
RECOMPUTE_READINESS (R99, R100) and CLEAR_OVERRIDE (R101). -/

namespace Sys2Proof.Machine

/-! ### What each operation runs on the vehicle record -/

theorem exec_applyLamp (r : LampRecord) (now : Time) (s : State) :
    exec (.applyLamp r now) s = .next ((s.setVs (s.vs.applyLamp r now)).answer .none) :=
  rfl

theorem exec_applyLock (r : LockRecord) (now : Time) (s : State) :
    exec (.applyLock r now) s = .next ((s.setVs (s.vs.applyLock r now)).answer .none) :=
  rfl

theorem exec_applyPark (r : ParkRecord) (now : Time) (s : State) :
    exec (.applyPark r now) s = .next ((s.setVs (s.vs.applyPark r now)).answer .none) :=
  rfl

theorem exec_applySoc (r : SocRecord) (now : Time) (s : State) :
    exec (.applySoc r now) s = .next ((s.setVs (s.vs.applySoc r now)).answer .none) :=
  rfl

theorem exec_recomputeReadiness (now : Time) (s : State) :
    exec (.recomputeReadiness now) s =
      .next ((s.setVs (s.vs.recomputeReadiness s.cfg now)).answer .none) :=
  rfl

theorem exec_clearOverride (s : State) :
    exec .clearOverride s = .next ((s.setVs s.vs.clearOverride).answer .none) :=
  rfl

/-! ### The four APPLY operations in closed form -/

/-- The override survives a valid lamp record exactly when the record is no 1-to-0 edge (R95). -/
theorem VehicleState.applyLamp_eq (v : VehicleState) (r : LampRecord) (now : Time) :
    v.applyLamp r now =
      if r.valid = false then v else { v with
        lamp := v.lamp.store r.value now
        lampRequestedOn := lampOn r.value
        override := v.override && !(v.lampRequestedOn && !lampOn r.value)
        overrideLevel := v.overrideLevel && !(v.lampRequestedOn && !lampOn r.value) } := by
  unfold VehicleState.applyLamp
  cases r.valid with
  | false => rfl
  | true => exact VehicleState.clearOverrideIf_eq _ _

/-- The override survives a valid lock record exactly when its value is an unlocked one; no edge is asked
for (D19). -/
theorem VehicleState.applyLock_eq (v : VehicleState) (r : LockRecord) (now : Time) :
    v.applyLock r now =
      if r.valid = false then v else { v with
        lock := v.lock.store r.value now
        unlocked := lockOpen r.value
        override := v.override && lockOpen r.value
        overrideLevel := v.overrideLevel && lockOpen r.value } := by
  unfold VehicleState.applyLock
  cases r.valid with
  | false => rfl
  | true =>
    simp only [VehicleState.clearOverrideIf_eq, Bool.not_not]
    rfl

theorem VehicleState.applyPark_eq (v : VehicleState) (r : ParkRecord) (now : Time) :
    v.applyPark r now =
      if r.valid = false then v else { v with
        park := v.park.store r.value now
        parked := parkSet r.value } := by
  unfold VehicleState.applyPark
  cases r.valid <;> rfl

theorem VehicleState.applySoc_eq (v : VehicleState) (r : SocRecord) (now : Time) :
    v.applySoc r now =
      if r.valid = false then v else { v with soc := v.soc.store r.value now } := by
  unfold VehicleState.applySoc
  cases r.valid <;> rfl

/-- Settles O25: the clear of the override on the lamp's off edge, as a mask on its two bits. -/
theorem applyLampResult : Obligations.ApplyLampResult := by
  intro r now s
  rw [exec_applyLamp, VehicleState.applyLamp_eq]
  rfl

/-- Settles O26: the clear of the override on a locked value, as a mask on its two bits. -/
theorem applyLockResult : Obligations.ApplyLockResult := by
  intro r now s
  rw [exec_applyLock, VehicleState.applyLock_eq]
  rfl

/-- Settles O27: APPLY_PARK in closed form. -/
theorem applyParkResult : Obligations.ApplyParkResult := by
  intro r now s
  rw [exec_applyPark, VehicleState.applyPark_eq]
  rfl

/-- Settles O28: APPLY_SOC in closed form. -/
theorem applySocResult : Obligations.ApplySocResult := by
  intro r now s
  rw [exec_applySoc, VehicleState.applySoc_eq]
  rfl

/-! ### Readiness (R99, R100) -/

/-- Freshness over the numbers of the timer, the age modulo `2^32` (R5). -/
theorem stale_eq_false_iff_toNat (c : Config) (now : Time) (slot : Slot) :
    stale c now slot = false ↔
      slot.seen = true ∧ (now.toNat + 2 ^ 32 - slot.ts.toNat) % 2 ^ 32 < c.readinessWindow.toNat := by
  rw [stale_eq_false_iff, BitVec.lt_def, elapsed_toNat]

/-- "Not all four stale" is "one of the four fresh". -/
theorem ready_iff_exists_fresh (c : Config) (now : Time) (v : VehicleState) :
    ready c now v = true ↔ ∃ slot ∈ [v.lamp, v.lock, v.park, v.soc], stale c now slot = false := by
  simp only [ready, Bool.not_eq_true', Bool.and_eq_false_iff, List.exists_mem_cons_iff,
    List.not_mem_nil, false_and, exists_false, or_false, or_assoc]

/-- Settles O29: `systemReady` is `ready`, the denial of "all four stale", and freshness is its age test. -/
theorem readinessIsTheOrOfFreshness : Obligations.ReadinessIsTheOrOfFreshness := by
  intro now s
  refine ⟨ready s.cfg now s.vs, exec_recomputeReadiness now s, ?_⟩
  simp only [ready_iff_exists_fresh, stale_eq_false_iff_toNat]

/-! ### CLEAR_OVERRIDE (R101) -/

theorem VehicleState.clearOverride_clearOverride (v : VehicleState) :
    v.clearOverride.clearOverride = v.clearOverride :=
  rfl

/-- Settles O30: the second clear finds the two bits already 0. -/
theorem clearOverrideResult : Obligations.ClearOverrideResult := by
  intro s
  refine ⟨exec_clearOverride s, ?_⟩
  simp only [runOps, exec_clearOverride, State.answer_vs, State.setVs_vs,
    VehicleState.clearOverride_clearOverride]
  rfl

end Sys2Proof.Machine
end

section
/-! PROOFS. The Button State Machine (43_button.md): BUTTON_TICK (R105 to R112), the four flag reads (R113
to R117), and what follows from them (R118 (a), R120). -/

namespace Sys2Proof.Machine

/-! ### What each operation runs on the button record -/

theorem exec_buttonTick (rawSample : Bool) (now : Time) (s : State) :
    exec (.buttonTick rawSample now) s =
      .next ((s.setBs (s.bs.tick s.cfg rawSample now)).answer .none) :=
  rfl

theorem exec_readPressed (s : State) :
    exec .readPressed s = .next ((s.setBs s.bs.clearPressed).answer (.bit s.bs.pressed)) :=
  rfl

theorem exec_readReleased (s : State) :
    exec .readReleased s = .next ((s.setBs s.bs.clearReleased).answer (.bit s.bs.released)) :=
  rfl

theorem exec_readHeld (s : State) :
    exec .readHeld s = .next ((s.setBs s.bs.clearHeld).answer (.bit s.bs.held)) :=
  rfl

theorem exec_readDoubleClick (s : State) :
    exec .readDoubleClick s = .next ((s.setBs s.bs.clearDoubleClick).answer (.bit s.bs.doubleClick)) :=
  rfl

/-! ### The parts of a BUTTON_TICK -/

theorem elapsed_self (now : Time) : elapsed now now = 0 :=
  BitVec.sub_self now

/-- The time at which the raw level last changed, once this tick's sample is taken (R106). -/
def ButtonState.rawSince (b : ButtonState) (rawSample : Bool) (now : Time) : Time :=
  if b.raw = rawSample then b.lastChange else now

theorem ButtonState.sample_eq_rawSince (b : ButtonState) (rawSample : Bool) (now : Time) :
    b.sample rawSample now =
      { b with prevDeb := b.deb, raw := rawSample, lastChange := b.rawSince rawSample now } := by
  simp only [ButtonState.sample_eq, ButtonState.rawSince, eq_comm]

/-- An edge: the sample differs from the debounced level and has been stable for the window (R107). -/
theorem debounceDone_sample_iff (c : Config) (b : ButtonState) (rawSample : Bool) (now : Time) :
    debounceDone c now (b.sample rawSample now) = true ↔
      rawSample ≠ b.deb ∧ c.debounceWindow ≤ elapsed now (b.rawSince rawSample now) := by
  simp [debounceDone, ButtonState.sample_eq_rawSince]

/-- The three things a BUTTON_TICK can do after sampling. Hold tracking follows a press edge and a tick
without an edge; after a release edge the debounced level is 0 and there is nothing to track. -/
theorem ButtonState.tick_eq (b : ButtonState) (c : Config) (rawSample : Bool) (now : Time) :
    b.tick c rawSample now =
      if debounceDone c now (b.sample rawSample now) then
        if rawSample then ((b.sample rawSample now).pressEdge c now).trackHold c now
        else (b.sample rawSample now).releaseEdge
      else (b.sample rawSample now).trackHold c now := by
  have hraw : (b.sample rawSample now).raw = rawSample := by rw [ButtonState.sample_eq]
  unfold ButtonState.tick ButtonState.debounce
  rw [hraw]
  split
  · cases rawSample <;> rfl
  · rfl

/-- A press lasts 0 at its own edge, so no positive threshold is reached there (R112). -/
theorem ButtonState.trackHold_pressEdge (b : ButtonState) {c : Config} (now : Time)
    (h : 0 < c.holdThreshold) :
    (b.pressEdge c now).trackHold c now = { b.pressEdge c now with holdDuration := 0 } := by
  have hshort : decide (c.holdThreshold ≤ elapsed now now) = false := by
    rw [elapsed_self]
    exact decide_eq_false (BitVec.not_le.2 h)
  have hnot : holdNow c now (b.pressEdge c now) = false :=
    (congrArg (!b.holdReported && ·) hshort).trans (Bool.and_false _)
  rw [ButtonState.trackHold_eq, hnot]
  simp only [Bool.and_false, Bool.or_false, ButtonState.pressEdge, if_true, elapsed_self]

/-- R4 asks for a threshold above a window, and so above 0. -/
theorem Config.holdThreshold_pos {c : Config} (h : c.doubleClickWindow < c.holdThreshold) :
    0 < c.holdThreshold := by
  bv_omega

/-! ### BUTTON_TICK: press edge, release edge, no edge (R108 to R112) -/

/-- Settles O31: the press edge on the sampled record, with a hold duration of 0. -/
theorem buttonTickPressEdge : Obligations.ButtonTickPressEdge := by
  intro now s hwindows hdeb since t hstable
  have hedge : debounceDone s.cfg now (s.bs.sample true now) = true :=
    (debounceDone_sample_iff s.cfg s.bs true now).2 ⟨by simp [hdeb], hstable⟩
  rw [exec_buttonTick, ButtonState.tick_eq, if_pos hedge, if_pos rfl,
    ButtonState.trackHold_pressEdge _ _ (Config.holdThreshold_pos hwindows),
    ButtonState.sample_eq_rawSince, hdeb]
  rfl

/-- Settles O32: the release edge on the sampled record. -/
theorem buttonTickReleaseEdge : Obligations.ButtonTickReleaseEdge := by
  intro now s hdeb since hstable
  have hedge : debounceDone s.cfg now (s.bs.sample false now) = true :=
    (debounceDone_sample_iff s.cfg s.bs false now).2 ⟨by simp [hdeb], hstable⟩
  rw [exec_buttonTick, ButtonState.tick_eq, if_pos hedge, if_neg Bool.false_ne_true,
    ButtonState.sample_eq_rawSince, hdeb]
  rfl

/-- Settles O33: the premise denies the edge, which leaves hold tracking on the sampled record. -/
theorem buttonTickWithoutAnEdge : Obligations.ButtonTickWithoutAnEdge := by
  intro rawSample now s since fire hquiet
  have hnoedge : ¬ debounceDone s.cfg now (s.bs.sample rawSample now) = true := by
    rw [debounceDone_sample_iff]
    rintro ⟨hdiffers, hstable⟩
    obtain hsame | hyoung := hquiet
    · exact hdiffers hsame
    · exact absurd hstable (BitVec.not_le.2 hyoung)
  have hfire : (s.bs.deb && holdNow s.cfg now s.bs) = fire := (Bool.and_assoc ..).symm
  rw [exec_buttonTick, ButtonState.tick_eq, if_neg hnoedge, ButtonState.trackHold_eq,
    ButtonState.sample_eq_rawSince, ← hfire]
  rfl

/-! ### One report per press (R112, R115) -/

/-- Nothing of the hold of a press is left to report: `held` has been read, and a press that still lasts has
been reported. -/
def HoldSettled (b : ButtonState) : Prop :=
  b.held = false ∧ (b.deb = true → b.holdReported = true)

/-- A press that has been reported does not fire again. -/
theorem holdSettled_trackHold {b : ButtonState} (c : Config) (now : Time) (hb : HoldSettled b) :
    HoldSettled (b.trackHold c now) := by
  obtain ⟨hheld, hreported⟩ := hb
  have hquiet : (b.deb && holdNow c now b) = false := by
    cases hdeb : b.deb with
    | false => rfl
    | true => simp [holdNow, hreported hdeb]
  rw [ButtonState.trackHold_eq, hquiet, Bool.or_false, Bool.or_false]
  exact ⟨hheld, hreported⟩

/-- No edge and the press edge keep the two hold bits; the release edge clears them with the level. -/
theorem holdSettled_tick {b : ButtonState} (c : Config) (rawSample : Bool) (now : Time)
    (hreported : b.holdReported = true) (hheld : b.held = false) :
    HoldSettled (b.tick c rawSample now) := by
  rw [ButtonState.tick_eq, ButtonState.sample_eq_rawSince]
  split
  · split
    · exact holdSettled_trackHold c now ⟨hheld, fun _ => hreported⟩
    · exact ⟨rfl, nofun⟩
  · exact holdSettled_trackHold c now ⟨hheld, fun _ => hreported⟩

/-- Settles O39: after the tick nothing of the hold is left to report. -/
theorem holdIsReportedOncePerPress : Obligations.HoldIsReportedOncePerPress := by
  intro rawSample now s hreported hheld
  exact ⟨_, exec_buttonTick rawSample now s, holdSettled_tick s.cfg rawSample now hreported hheld⟩

/-! ### A hold and a double-click in one tick (R118 (a)) -/

/-- Only a press edge sets `doubleClick`, and a press edge sets no `held`. -/
theorem tick_not_held_and_doubleClick {b : ButtonState} {c : Config} (rawSample : Bool) (now : Time)
    (hpos : 0 < c.holdThreshold) (hheld : b.held = false) (hdc : b.doubleClick = false) :
    ¬ ((b.tick c rawSample now).held = true ∧ (b.tick c rawSample now).doubleClick = true) := by
  rw [ButtonState.tick_eq, ButtonState.sample_eq_rawSince]
  rintro ⟨hheld', hdc'⟩
  split at hheld'
  · split at hheld'
    · rw [ButtonState.trackHold_pressEdge _ _ hpos] at hheld'
      exact absurd (hheld.symm.trans hheld') nofun
    · exact absurd hheld' nofun
  · next hnoedge =>
    rw [if_neg hnoedge, ButtonState.trackHold_eq] at hdc'
    exact absurd (hdc.symm.trans hdc') nofun

/-- Settles O40: phase 4 reads the flags its BUTTON_TICK leaves. -/
theorem holdAndDoubleClickNeverFallInOneTick : Obligations.HoldAndDoubleClickNeverFallInOneTick := by
  intro now frames rawSample s hwindows _ hclear
  obtain ⟨-, -, hheld, hdc⟩ := hclear
  exact ⟨_, _, _, _, _, _, rfl, rfl,
    tick_not_held_and_doubleClick rawSample now (Config.holdThreshold_pos hwindows) hheld hdc⟩

/-! ### The frame of BUTTON_TICK (R120) and the four flag reads (R113 to R117) -/

/-- Settles O34: the new record is a function of `BS`, the configuration and the operands. -/
theorem buttonTickIsIndependentOfTheVehicle : Obligations.ButtonTickIsIndependentOfTheVehicle := by
  intro rawSample now s u hbs hcfg
  refine ⟨s.bs.tick s.cfg rawSample now, exec_buttonTick rawSample now s, ?_⟩
  rw [exec_buttonTick, hbs, hcfg]
  rfl

/-- Settles O35: the next state clears the bit, the response holds the level it had before. -/
theorem readPressedReturnsAndClears : Obligations.ReadPressedReturnsAndClears :=
  exec_readPressed

/-- Settles O36, as O35 for `released`. -/
theorem readReleasedReturnsAndClears : Obligations.ReadReleasedReturnsAndClears :=
  exec_readReleased

/-- Settles O37: as O35 for `held`; `clearHeld` does not touch `holdReported`. -/
theorem readHeldReturnsAndClears : Obligations.ReadHeldReturnsAndClears :=
  exec_readHeld

/-- Settles O38, as O35 for `doubleClick`. -/
theorem readDoubleClickReturnsAndClears : Obligations.ReadDoubleClickReturnsAndClears :=
  exec_readDoubleClick

end Sys2Proof.Machine
end

section
/-! PROOFS. The Output Decision Logic (44_output.md): OUTPUT_TICK (R121 to R132) and APPLY_PINS (R134), what
starts and ends an override and a latch pulse (R128, R132, R152), and what both logics do inside a tick
(45_tick.md R137). -/

namespace Sys2Proof.Machine

/-! ### What each operation runs on the records -/

theorem exec_outputTick (h dc : Bool) (now : Time) (s : State) :
    exec (.outputTick h dc now) s =
      .next (((s.setVs (s.vs.updateOverride dc)).setOs
        (s.os.drive s.cfg h now (s.vs.updateOverride dc))).answer .none) :=
  rfl

theorem exec_applyPins (s : State) :
    exec .applyPins s =
      .next (((s.setOs s.os.copyLevels).setPin (s.pin.follow s.os)).answer (.events s.os.events)) :=
  rfl

theorem outputTick_next {h dc : Bool} {now : Time} {s t : State}
    (ht : exec (.outputTick h dc now) s = .next t) :
    t.vs = s.vs.updateOverride dc ∧ t.os = s.os.drive s.cfg h now t.vs := by
  cases ht
  exact ⟨rfl, rfl⟩

/-- R137: a tick runs the output logic on the vehicle record after its frames and readiness, with the hold
and double-click flags that its response reports. -/
theorem tick_next {now : Time} {frames : List Frame} {rawSample : Bool} {s t : State}
    (ht : exec (.tick now frames rawSample) s = .next t) :
    ∃ es p r h dc, t.out = .tick es p r h dc ∧
      t.vs = (s.vs.receive s.cfg now frames).updateOverride dc ∧
      t.os = (s.os.drive s.cfg h now t.vs).copyLevels := by
  cases ht
  exact ⟨_, _, _, _, _, rfl, rfl, rfl⟩

/-! ### The fields an OUTPUT_TICK writes -/

theorem autoTarget_iff (v : VehicleState) :
    autoTarget v = true ↔ v.lampRequestedOn = true ∧ v.systemReady = true := by
  simp [autoTarget]

theorem latchGate_iff (v : VehicleState) :
    latchGate v = true ↔ v.systemReady = true ∧ v.parked = true ∧ v.unlocked = true := by
  simp [latchGate, and_assoc]

/-- R127: without an override the light is the automatic one. -/
theorem lightTarget_of_not_override {v : VehicleState} (h : v.override = false) :
    lightTarget v = autoTarget v := by
  simp [lightTarget, h]

/-- R127: an overridden light is at the override level. -/
theorem lightTarget_of_override {v : VehicleState} (h : v.override = true) :
    lightTarget v = v.overrideLevel := by
  simp [lightTarget, h]

@[simp] theorem VehicleState.updateOverride_override (v : VehicleState) (dc : Bool) :
    (v.updateOverride dc).override = (v.unlocked && (v.override || dc)) := by
  rw [VehicleState.updateOverride_eq]

@[simp] theorem VehicleState.updateOverride_unlocked (v : VehicleState) (dc : Bool) :
    (v.updateOverride dc).unlocked = v.unlocked := by
  rw [VehicleState.updateOverride_eq]

/-- The override update writes the two override bits only, and the automatic target reads neither. -/
@[simp] theorem autoTarget_updateOverride (v : VehicleState) (dc : Bool) :
    autoTarget (v.updateOverride dc) = autoTarget v := by
  rw [VehicleState.updateOverride_eq]
  rfl

/-- R123, R126: while locked the update is CLEAR_OVERRIDE, with a double-click or without. -/
theorem VehicleState.updateOverride_of_locked {v : VehicleState} (h : v.unlocked = false) (dc : Bool) :
    v.updateOverride dc = v.clearOverride := by
  simp [VehicleState.updateOverride, h]

/-- The pulse still runs: R130's test, denied. -/
theorem not_pulseDone (c : Config) (now : Time) (o : OutputState) :
    (!pulseDone c now o) = decide (now - o.latchStart < c.latchPulseDuration) := by
  simp only [← BitVec.not_le, decide_not]
  rfl

/-- The light target and the latch update are independent of each other. -/
theorem OutputState.drive_eq (o : OutputState) (c : Config) (h : Bool) (now : Time) (v : VehicleState) :
    o.drive c h now v =
      { o with
        light := lightTarget v
        latch := if o.latch then !pulseDone c now o else h && latchGate v
        latchStart := if h && latchGate v && !o.latch then now else o.latchStart } :=
  OutputState.updateLatch_eq { o with light := lightTarget v } c h now v

@[simp] theorem OutputState.drive_light (o : OutputState) (c : Config) (h : Bool) (now : Time)
    (v : VehicleState) : (o.drive c h now v).light = lightTarget v := by
  rw [OutputState.drive_eq]

@[simp] theorem OutputState.copyLevels_light (o : OutputState) : o.copyLevels.light = o.light := rfl

/-! ### OUTPUT_TICK and APPLY_PINS in closed form (R122 to R134) -/

/-- Settles O41: the override update in closed form, and the light target read from it. -/
theorem outputTickOverrideAndLight : Obligations.OutputTickOverrideAndLight := by
  intro h dc now s auto ovr lvl
  rw [exec_outputTick, VehicleState.updateOverride_eq, OutputState.drive_eq]
  exact ⟨_, _, rfl⟩

/-- Settles O42: the latch update in closed form; the gate is the same before and after the override
update. -/
theorem outputTickLatch : Obligations.OutputTickLatch := by
  intro h dc now s fire
  have hfire : (h && latchGate (s.vs.updateOverride dc) && !s.os.latch) = fire := by
    rw [VehicleState.updateOverride_eq]
    simp only [latchGate, fire, Bool.and_assoc]
  have hlatch : (if s.os.latch then !pulseDone s.cfg now s.os
        else h && latchGate (s.vs.updateOverride dc)) =
      if s.os.latch then decide (now - s.os.latchStart < s.cfg.latchPulseDuration) else fire := by
    rw [not_pulseDone, ← hfire]
    cases s.os.latch with
    | true => rfl
    | false => simp
  rw [exec_outputTick, OutputState.drive_eq, hfire, hlatch]
  exact ⟨_, _, rfl⟩

/-- Settles O43: while locked both updates are CLEAR_OVERRIDE. -/
theorem doubleClickWhileLockedIsIgnored : Obligations.DoubleClickWhileLockedIsIgnored := by
  intro h now s hlocked
  rw [exec_outputTick, exec_outputTick, VehicleState.updateOverride_of_locked hlocked,
    VehicleState.updateOverride_of_locked hlocked]
  exact ⟨rfl, _, rfl, rfl⟩

/-- Settles O48: the model compares for equality where the statement asks for a change. -/
theorem applyPinsResult : Obligations.ApplyPinsResult := by
  intro s
  simp only [ite_not, ne_eq]
  exact exec_applyPins s

/-! ### What starts an override (R124, R128, R152) -/

/-- No frame's APPLY turns the override on. -/
theorem VehicleState.applyLamp_not_override {v : VehicleState} (r : LampRecord) (now : Time)
    (h : v.override = false) : (v.applyLamp r now).override = false := by
  rw [VehicleState.applyLamp_eq]
  split
  · exact h
  · simp [h]

theorem VehicleState.applyLock_not_override {v : VehicleState} (r : LockRecord) (now : Time)
    (h : v.override = false) : (v.applyLock r now).override = false := by
  rw [VehicleState.applyLock_eq]
  split
  · exact h
  · simp [h]

@[simp] theorem VehicleState.applyPark_override (v : VehicleState) (r : ParkRecord) (now : Time) :
    (v.applyPark r now).override = v.override := by
  rw [VehicleState.applyPark_eq]
  split <;> rfl

@[simp] theorem VehicleState.applySoc_override (v : VehicleState) (r : SocRecord) (now : Time) :
    (v.applySoc r now).override = v.override := by
  rw [VehicleState.applySoc_eq]
  split <;> rfl

theorem VehicleState.applyDecoded_not_override {v : VehicleState} (d : Decoded) (now : Time)
    (h : v.override = false) : (v.applyDecoded d now).override = false := by
  cases d with
  | lamp r => exact v.applyLamp_not_override r now h
  | lock r => exact v.applyLock_not_override r now h
  | park r => exact (v.applyPark_override r now).trans h
  | soc r => exact (v.applySoc_override r now).trans h
  | none => exact h

theorem VehicleState.applyFrames_not_override {v : VehicleState} (frames : List Frame) (now : Time)
    (h : v.override = false) : (v.applyFrames frames now).override = false := by
  induction frames generalizing v with
  | nil => exact h
  | cons f fs ih => exact ih (applyDecoded_not_override (dispatchFrame f) now h)

theorem VehicleState.receive_not_override {v : VehicleState} (c : Config) (now : Time)
    (frames : List Frame) (h : v.override = false) : (v.receive c now frames).override = false :=
  applyFrames_not_override (batch c frames) now h

/-- R124: the update enters an override only on a double-click while unlocked. -/
theorem VehicleState.updateOverride_starts {v : VehicleState} {dc : Bool} (hoff : v.override = false)
    (hon : (v.updateOverride dc).override = true) :
    (v.updateOverride dc).unlocked = true ∧ dc = true := by
  simpa [hoff] using hon

/-- R128: only the operations that run the override update turn an override on. -/
theorem override_starts_cases {i : Instr} {s t : State} (ht : exec i s = .next t)
    (hoff : s.vs.override = false) (hon : t.vs.override = true) :
    (∃ h dc now, i = .outputTick h dc now) ∨ ∃ now frames rawSample, i = .tick now frames rawSample := by
  have hcontra (hstill : t.vs.override = false) : False := Bool.false_ne_true (hstill.symm.trans hon)
  cases i with
  | outputTick h dc now => exact .inl ⟨h, dc, now, rfl⟩
  | tick now frames rawSample => exact .inr ⟨now, frames, rawSample, rfl⟩
  | applyLamp r now => cases ht; exact (hcontra (s.vs.applyLamp_not_override r now hoff)).elim
  | applyLock r now => cases ht; exact (hcontra (s.vs.applyLock_not_override r now hoff)).elim
  | applyPark r now => cases ht; exact (hcontra ((s.vs.applyPark_override r now).trans hoff)).elim
  | applySoc r now => cases ht; exact (hcontra ((s.vs.applySoc_override r now).trans hoff)).elim
  | clearOverride => cases ht; exact (hcontra rfl).elim
  | reset => cases ht; exact (hcontra rfl).elim
  | _ => cases ht; exact (hcontra hoff).elim

/-- Settles O44: an override starts in the override update, and a tick's frames do not start one before. -/
theorem overrideStartsOnlyByAGatedDoubleClick : Obligations.OverrideStartsOnlyByAGatedDoubleClick := by
  intro i s
  obtain ⟨t, ht⟩ := exec_eq_next i s
  refine ⟨t, ht, fun hoff hon => ?_⟩
  obtain ⟨h, dc, now, rfl⟩ | ⟨now, frames, rawSample, rfl⟩ := override_starts_cases ht hoff hon
  · obtain ⟨hvs, -⟩ := outputTick_next ht
    rw [hvs] at hon ⊢
    obtain ⟨hunlocked, rfl⟩ := VehicleState.updateOverride_starts hoff hon
    exact ⟨hunlocked, .inl ⟨h, now, rfl⟩⟩
  · obtain ⟨es, p, r, h, dc, hout, hvs, -⟩ := tick_next ht
    rw [hvs] at hon ⊢
    obtain ⟨hunlocked, rfl⟩ :=
      VehicleState.updateOverride_starts (VehicleState.receive_not_override s.cfg now frames hoff) hon
    exact ⟨hunlocked, .inr ⟨now, frames, rawSample, es, p, r, h, rfl, hout⟩⟩

/-! ### What starts and ends a latch pulse (R129 to R132, R152) -/

/-- Only the operations that run the latch update, and RESET, move the latch. -/
theorem latch_changes_cases {i : Instr} {s t : State} (ht : exec i s = .next t)
    (hmoved : t.os.latch ≠ s.os.latch) :
    i = .reset ∨ (∃ h dc now, i = .outputTick h dc now) ∨
      ∃ now frames rawSample, i = .tick now frames rawSample := by
  cases i with
  | reset => exact .inl rfl
  | outputTick h dc now => exact .inr (.inl ⟨h, dc, now, rfl⟩)
  | tick now frames rawSample => exact .inr (.inr ⟨now, frames, rawSample, rfl⟩)
  | _ => cases ht; exact absurd rfl hmoved

/-- R129: a pulse starts by a hold edge through the gate, at this time. -/
theorem OutputState.drive_latch_starts {o : OutputState} {c : Config} {h : Bool} {now : Time}
    {v : VehicleState} (hoff : o.latch = false) (hon : (o.drive c h now v).latch = true) :
    h = true ∧ (v.systemReady = true ∧ v.parked = true ∧ v.unlocked = true) ∧
      (o.drive c h now v).latchStart = now := by
  rw [OutputState.drive_eq] at hon ⊢
  obtain ⟨rfl, hgate⟩ : h = true ∧ latchGate v = true := by simpa [hoff] using hon
  exact ⟨rfl, (latchGate_iff v).1 hgate, by simp [hoff, hgate]⟩

/-- R130, R132: a pulse ends only at or past its duration. -/
theorem OutputState.drive_latch_ends {o : OutputState} {c : Config} {h : Bool} {now : Time}
    {v : VehicleState} (hon : o.latch = true) (hoff : (o.drive c h now v).latch = false) :
    c.latchPulseDuration ≤ now - o.latchStart := by
  rw [OutputState.drive_eq] at hoff
  have hdone : pulseDone c now o = true := by simpa [hon] using hoff
  exact of_decide_eq_true hdone

/-- Settles O46: OUTPUT_TICK and TICK start a pulse in the latch update, on the vehicle record they leave;
RESET leaves the latch off. -/
theorem latchStartsOnlyThroughItsGate : Obligations.LatchStartsOnlyThroughItsGate := by
  intro i s
  obtain ⟨t, ht⟩ := exec_eq_next i s
  refine ⟨t, ht, fun hoff hon => ?_⟩
  obtain rfl | ⟨h, dc, now, rfl⟩ | ⟨now, frames, rawSample, rfl⟩ :=
    latch_changes_cases ht (by simp [hoff, hon])
  · cases ht
    exact absurd hon nofun
  · obtain ⟨-, hos⟩ := outputTick_next ht
    rw [hos] at hon ⊢
    obtain ⟨rfl, ⟨hready, hparked, hunlocked⟩, hstart⟩ := OutputState.drive_latch_starts hoff hon
    exact ⟨hready, hparked, hunlocked, now, hstart, .inl ⟨dc, rfl⟩⟩
  · obtain ⟨es, p, r, h, dc, hout, -, hos⟩ := tick_next ht
    rw [hos] at hon ⊢
    obtain ⟨rfl, ⟨hready, hparked, hunlocked⟩, hstart⟩ := OutputState.drive_latch_starts hoff hon
    exact ⟨hready, hparked, hunlocked, now, hstart, .inr ⟨frames, rawSample, es, p, r, dc, rfl, hout⟩⟩

/-- Settles O47: apart from RESET, a pulse ends in the latch update of an OUTPUT_TICK or a TICK. -/
theorem latchEndsOnlyByItsTimeout : Obligations.LatchEndsOnlyByItsTimeout := by
  intro i s
  obtain ⟨t, ht⟩ := exec_eq_next i s
  refine ⟨t, ht, fun hon hoff => ?_⟩
  obtain rfl | ⟨h, dc, now, rfl⟩ | ⟨now, frames, rawSample, rfl⟩ :=
    latch_changes_cases ht (by simp [hoff, hon])
  · exact .inl rfl
  · obtain ⟨-, hos⟩ := outputTick_next ht
    rw [hos] at hoff
    exact .inr ⟨now, .inl ⟨h, dc, rfl⟩, OutputState.drive_latch_ends hon hoff⟩
  · obtain ⟨-, -, -, h, -, -, -, hos⟩ := tick_next ht
    rw [hos] at hoff
    exact .inr ⟨now, .inr ⟨frames, rawSample, rfl⟩, OutputState.drive_latch_ends hon hoff⟩

/-! ### The override through a tick's frames (R95, R96, R127, R176) -/

/-- An unlocked vehicle in override at the given level. -/
def OverriddenAt (level : Bool) (v : VehicleState) : Prop :=
  v.unlocked = true ∧ v.override = true ∧ v.overrideLevel = level

/-- A shorter list brings no event that the longer one does not bring. -/
theorem bringsNoClear_take {requested : Bool} {frames : List Frame} (n : Nat)
    (h : bringsNoClear requested frames = true) : bringsNoClear requested (frames.take n) = true := by
  induction frames generalizing requested n with
  | nil => simpa using h
  | cons f fs ih =>
    cases n with
    | zero => rfl
    | succ n =>
      rw [List.take_succ_cons]
      cases hframe : dispatchFrame f with
      | lamp r | lock r =>
        simp only [bringsNoClear, hframe, Bool.and_eq_true] at h ⊢
        exact h.imp_right (ih n)
      | park r | soc r | none =>
        simp only [bringsNoClear, hframe] at h ⊢
        exact ih n h

/-- Every valid record that is neither the lamp's off edge nor a locked value leaves the override; the rest
of the list is judged by the lamp request that the frame leaves. -/
theorem overriddenAt_applyDispatched {level : Bool} {v : VehicleState} {f : Frame} {fs : List Frame}
    (now : Time) (hv : OverriddenAt level v)
    (h : bringsNoClear v.lampRequestedOn (f :: fs) = true) :
    OverriddenAt level (v.applyDecoded (dispatchFrame f) now) ∧
      bringsNoClear (v.applyDecoded (dispatchFrame f) now).lampRequestedOn fs = true := by
  obtain ⟨hunlocked, hoverride, hlevel⟩ := hv
  rw [bringsNoClear, dispatchFrame_eq] at h
  rw [dispatchFrame_eq]
  cases hkind : classify f.identifier f.length with
  | lamp =>
    simp only [hkind, decodedOfKind, Bool.and_eq_true] at h
    obtain ⟨hnoedge, hrest⟩ := h
    simp [OverriddenAt, decodedOfKind, VehicleState.applyDecoded, VehicleState.applyLamp_eq, *]
  | lock =>
    simp only [hkind, decodedOfKind, Bool.and_eq_true] at h
    obtain ⟨hopen, hrest⟩ := h
    simp [OverriddenAt, decodedOfKind, VehicleState.applyDecoded, VehicleState.applyLock_eq, *]
  | park | soc | none => rw [hkind] at h; exact ⟨⟨hunlocked, hoverride, hlevel⟩, h⟩

theorem overriddenAt_applyFrames {level : Bool} {v : VehicleState} {frames : List Frame} (now : Time)
    (hv : OverriddenAt level v) (h : bringsNoClear v.lampRequestedOn frames = true) :
    OverriddenAt level (v.applyFrames frames now) := by
  induction frames generalizing v with
  | nil => exact hv
  | cons f fs ih =>
    obtain ⟨hv', hrest⟩ := overriddenAt_applyDispatched now hv h
    exact ih hv' hrest

/-- Readiness, recomputed after the frames, is none of the three bits. -/
theorem overriddenAt_receive {level : Bool} {v : VehicleState} {frames : List Frame} (c : Config)
    (now : Time) (hv : OverriddenAt level v) (h : bringsNoClear v.lampRequestedOn frames = true) :
    OverriddenAt level (v.receive c now frames) :=
  overriddenAt_applyFrames now hv (bringsNoClear_take c.frameBatchMax h)

/-- R125: in override a double-click toggles the level. -/
theorem overriddenAt_updateOverride {level : Bool} {v : VehicleState} (dc : Bool)
    (hv : OverriddenAt level v) :
    OverriddenAt (if dc then !level else level) (v.updateOverride dc) := by
  obtain ⟨hunlocked, hoverride, rfl⟩ := hv
  simp [OverriddenAt, VehicleState.updateOverride_eq, hunlocked, hoverride]

/-- Settles O45: the override passes through the frames, the readiness and the override update, and the
light follows its level. -/
theorem overriddenLightIgnoresReadinessAndRequest :
    Obligations.OverriddenLightIgnoresReadinessAndRequest := by
  intro now frames rawSample s hunlocked hoverride hnoclear
  obtain ⟨t, ht⟩ := exec_eq_next (.tick now frames rawSample) s
  obtain ⟨es, p, r, h, dc, hout, hvs, hos⟩ := tick_next ht
  have hreceived : OverriddenAt s.vs.overrideLevel (s.vs.receive s.cfg now frames) :=
    overriddenAt_receive s.cfg now ⟨hunlocked, hoverride, rfl⟩ hnoclear
  obtain ⟨hunlocked', hoverride', hlevel⟩ := hvs ▸ overriddenAt_updateOverride dc hreceived
  have hlight : t.os.light = lightTarget t.vs := by simp [hos]
  exact ⟨t, es, p, r, h, dc, ht, hout, hunlocked', hoverride', hlevel,
    hlight.trans (lightTarget_of_override hoverride')⟩

/-! ### The automatic light at the end of a tick (R122, R123, R137) -/

/-- Settles O53: the tick's override update is the clear of R123, and its light is then the automatic one. -/
theorem lockedTickEndsAutomatic : Obligations.LockedTickEndsAutomatic := by
  intro now frames rawSample s
  obtain ⟨t, ht⟩ := exec_eq_next (.tick now frames rawSample) s
  obtain ⟨-, -, -, h, dc, -, hvs, hos⟩ := tick_next ht
  refine ⟨t, ht, fun hlocked => ?_⟩
  have hcleared : t.vs = (s.vs.receive s.cfg now frames).clearOverride := by
    rw [hvs, VehicleState.updateOverride_unlocked] at hlocked
    rw [hvs, VehicleState.updateOverride_of_locked hlocked]
  have hoff : t.vs.override = false := by rw [hcleared, VehicleState.clearOverride_override]
  have hlight : t.os.light = lightTarget t.vs := by simp [hos]
  exact ⟨hoff, by rw [hcleared, VehicleState.clearOverride_overrideLevel],
    hlight.trans (lightTarget_of_not_override hoff)⟩

/-- A signal that arrives in this tick is fresh, whatever the timer (R99). -/
theorem not_stale_store {c : Config} (slot : Slot) (value : Byte) (now : Time)
    (h : 0 < c.readinessWindow) : stale c now (slot.store value now) = false :=
  (stale_eq_false_iff c now _).2 ⟨rfl, (elapsed_self now).symm ▸ h⟩

/-- A lamp request that asks for the lamp sets the automatic target through its own freshness, and clears
no override. -/
theorem receive_lampRequest {f : Frame} {c : Config} (v : VehicleState) (now : Time)
    (hkind : classify f.identifier f.length = .lamp) (hon : lampOn (fieldValue .lamp f.data) = true)
    (hwindow : 0 < c.readinessWindow) (hbatch : 1 ≤ c.frameBatchMax) :
    autoTarget (v.receive c now [f]) = true ∧ (v.receive c now [f]).unlocked = v.unlocked ∧
      (v.receive c now [f]).override = v.override := by
  have happlied : v.applyFrames (batch c [f]) now =
      { v with lamp := v.lamp.store (fieldValue .lamp f.data) now, lampRequestedOn := true } := by
    rw [batch_of_length_le (by simpa using hbatch), VehicleState.applyFrames_cons, dispatchFrame_eq, hkind]
    simp [decodedOfKind, VehicleState.applyDecoded, VehicleState.applyLamp_eq, hon,
      VehicleState.applyFrames]
  rw [VehicleState.receive, happlied]
  refine ⟨(autoTarget_iff _).2 ⟨rfl, ?ready⟩, rfl, rfl⟩
  case ready =>
    exact (ready_iff_exists_fresh c now _).2 ⟨_, List.mem_cons_self, not_stale_store _ _ now hwindow⟩

/-- Settles O54: the frame is a lamp record that asks for the lamp, so the automatic target is 1, and
neither alternative of the premise leaves an override in front of it. -/
theorem lampRequestLightsInItsOwnTick : Obligations.LampRequestLightsInItsOwnTick := by
  intro now f rawSample s hidentifier hlength hvalue hwindow hbatch
  obtain ⟨t, ht⟩ := exec_eq_next (.tick now [f] rawSample) s
  obtain ⟨es, p, r, h, dc, hout, hvs, hos⟩ := tick_next ht
  refine ⟨t, es, p, r, h, dc, ht, hout, fun hnone => ?_⟩
  have hkind : classify f.identifier f.length = .lamp :=
    (classify_eq_kindOfSignal_iff .lamp _ _).2 ⟨hidentifier, hlength⟩
  obtain ⟨hauto, hunlocked, hoverride⟩ :=
    receive_lampRequest s.vs now hkind ((lampOn_iff _).2 hvalue) hwindow hbatch
  have hoff : t.vs.override = false := by
    rw [hvs, VehicleState.updateOverride_override, hunlocked, hoverride]
    obtain hlocked | ⟨hautomatic, hnodc⟩ := hnone
    · simp [hlocked]
    · simp [hautomatic, hnodc]
  calc t.os.light = lightTarget t.vs := by simp [hos]
    _ = autoTarget t.vs := lightTarget_of_not_override hoff
    _ = true := by rw [hvs, autoTarget_updateOverride, hauto]

end Sys2Proof.Machine
end

section
/-! PROOFS. The control loop (45_tick.md): what a step runs (R136, R140; log entries 1, 3, 4), and TICK as
its six phases (R137, R139). -/

namespace Sys2Proof.Machine

/-! ### What the next step runs (log entries 3 and 4) -/

theorem fetch_of_stream_eq_nil {s : State} (h : s.stream = []) :
    fetch s = .ok (freeTick s, s.nextInput) := by
  simp only [fetch, h]

theorem fetch_of_decode_eq_ok {s : State} {i : Instr} {rest : List Byte} (hne : s.stream ≠ [])
    (hdecode : decode s.stream = .ok (i, rest)) : fetch s = .ok (i, s.setStream rest) := by
  obtain ⟨b, bs, hstream⟩ := List.exists_cons_of_ne_nil hne
  rw [hstream] at hdecode
  simp only [fetch, hstream, hdecode]

/-- Settles O6: the guard lets an admitted configuration through, and the bytes at the head decode. -/
theorem stepRunsTheDecodedStimulus : Obligations.StepRunsTheDecodedStimulus := by
  intro s i rest hwindows hbatch hne hdecode
  exact step_of_fetch_ok ((Config.admitted_iff _).2 ⟨hwindows, hbatch⟩)
    (fetch_of_decode_eq_ok hne hdecode)

/-- Settles O7: the guard lets an admitted configuration through, and an empty stream gives the free tick. -/
theorem stepWithNothingPresentedIsALoopTick : Obligations.StepWithNothingPresentedIsALoopTick := by
  intro s hwindows hbatch hnil
  exact step_of_fetch_ok ((Config.admitted_iff _).2 ⟨hwindows, hbatch⟩) (fetch_of_stream_eq_nil hnil)

/-! ### The configuration is kept (R3, log entry 1) -/

theorem exec_keeps_cfg {i : Instr} {s t : State} (h : exec i s = .next t) : t.cfg = s.cfg := by
  cases i <;> cases h <;> rfl

theorem fetch_keeps_cfg {s u : State} {i : Instr} (h : fetch s = .ok (i, u)) : u.cfg = s.cfg := by
  obtain ⟨-, -, rfl⟩ | ⟨rest, -, rfl⟩ := fetch_ok_cases h
  · exact State.nextInput_cfg s
  · exact State.setStream_cfg s rest

/-- Once something is fetched, only the configuration could refuse the step. -/
theorem step_answers_of_fetch_ok {s u : State} {i : Instr} (ha : s.cfg.admitted = true)
    (hf : fetch s = .ok (i, u)) : ∃ t, step s = .next t ∧ t.cfg = s.cfg := by
  obtain ⟨t, ht⟩ := exec_eq_next i u
  exact ⟨t, (step_of_fetch_ok ha hf).trans ht, (exec_keeps_cfg ht).trans (fetch_keeps_cfg hf)⟩

/-- Settles O9: a fetch succeeds with nothing presented and on bytes that decode, and whatever it gives
completes. -/
theorem stepAnswersOnNothingOrAStimulus : Obligations.StepAnswersOnNothingOrAStimulus := by
  intro s hwindows hbatch hpresented
  have hadmitted : s.cfg.admitted = true := (Config.admitted_iff _).2 ⟨hwindows, hbatch⟩
  by_cases hnil : s.stream = []
  · exact step_answers_of_fetch_ok hadmitted (fetch_of_stream_eq_nil hnil)
  · obtain ⟨i, rest, hdecode⟩ := hpresented.resolve_left hnil
    exact step_answers_of_fetch_ok hadmitted (fetch_of_decode_eq_ok hnil hdecode)

/-! ### Running port calls one after the other -/

theorem runOps_cons_of_next {i : Instr} {s t : State} (h : exec i s = .next t) (is : List Instr) :
    runOps (i :: is) s = runOps is t := by
  simp only [runOps, h]

theorem runOps_append_of_next {is : List Instr} {s t : State} (h : runOps is s = .next t)
    (js : List Instr) : runOps (is ++ js) s = runOps js t := by
  induction is generalizing s with
  | nil => cases h; rfl
  | cons i is ih =>
    obtain ⟨u, hu⟩ := exec_eq_next i s
    rw [runOps_cons_of_next hu] at h
    rw [List.cons_append, runOps_cons_of_next hu, ih h]

theorem runOps_keeps_cfg {is : List Instr} {s t : State} (h : runOps is s = .next t) : t.cfg = s.cfg := by
  induction is generalizing s with
  | nil => cases h; rfl
  | cons i is ih =>
    obtain ⟨u, hu⟩ := exec_eq_next i s
    rw [runOps_cons_of_next hu] at h
    exact (ih h).trans (exec_keeps_cfg hu)

/-! ### The phases of a tick as port calls (R137) -/

/-- Phase 1: the port calls of a list of frames write `VS` as a tick does, and nothing else of the block. -/
theorem runOps_frames (now : Time) (frames : List Frame) (s : State) :
    ∃ u, runOps (frames.flatMap (frameOps now)) s = .next u ∧
      SameBlock (s.setVs (s.vs.applyFrames frames now)) u := by
  induction frames generalizing s with
  | nil => exact ⟨s, rfl, rfl, rfl, rfl, rfl⟩
  | cons f fs ih =>
    obtain ⟨u, hu, hvs, hbs, hos, hpin⟩ := runOps_frameOps f now s
    obtain ⟨w, hw, hvs', hbs', hos', hpin'⟩ := ih u
    refine ⟨w, ?run, ?vs, hbs.trans hbs', hos.trans hos', hpin.trans hpin'⟩
    case run => rw [List.flatMap_cons, runOps_append_of_next hu, hw]
    case vs => rw [← hvs', ← hvs]; rfl

/-- The block after phases 1 to 3: the frames and the readiness have written `VS`, BUTTON_TICK `BS`. -/
def State.afterInputPhases (s : State) (now : Time) (frames : List Frame) (rawSample : Bool) : State :=
  (s.setVs (s.vs.receive s.cfg now frames)).setBs (s.bs.tick s.cfg rawSample now)

/-- The state after phases 4 to 6 on a block whose phases 1 to 3 are done. -/
def State.afterOutputPhases (b : State) (now : Time) : State :=
  let v := b.vs.updateOverride b.bs.doubleClick
  let o := b.os.drive b.cfg b.bs.held now v
  ((((b.setVs v).setBs b.bs.clearFlags).setOs o.copyLevels).setPin (b.pin.follow o)).answer
    (.tick o.events b.bs.pressed b.bs.released b.bs.held b.bs.doubleClick)

theorem exec_tick (now : Time) (frames : List Frame) (rawSample : Bool) (s : State) :
    exec (.tick now frames rawSample) s =
      .next ((s.afterInputPhases now frames rawSample).afterOutputPhases now) :=
  rfl

/-- Phases 1 to 3 as port calls, for a list of frames that a tick reads whole. -/
theorem runOps_inputPhases (now : Time) {frames : List Frame} (rawSample : Bool) {s : State}
    (hbatch : frames.length ≤ s.cfg.frameBatchMax) :
    ∃ b, runOps (frames.flatMap (frameOps now) ++ [.recomputeReadiness now, .buttonTick rawSample now]) s =
        .next b ∧ SameBlock (s.afterInputPhases now frames rawSample) b := by
  obtain ⟨u, hu, hvs, hbs, hos, hpin⟩ := runOps_frames now frames s
  have hcfg : u.cfg = s.cfg := runOps_keeps_cfg hu
  have hrun := runOps_append_of_next hu [.recomputeReadiness now, .buttonTick rawSample now]
  rw [runOps_cons_of_next (exec_recomputeReadiness now u),
    runOps_cons_of_next (exec_buttonTick rawSample now _)] at hrun
  refine ⟨_, hrun, ?vs, ?bs, hos, hpin⟩
  case vs => simp [State.afterInputPhases, VehicleState.receive, batch_of_length_le hbatch, ← hvs, hcfg]
  case bs => simp [State.afterInputPhases, ← hbs, hcfg]

/-- Phase 4 as port calls: each read leaves its answer in `out`, the last one's stays. -/
theorem runOps_flagReads (is : List Instr) (b : State) :
    runOps (.readPressed :: .readReleased :: .readHeld :: .readDoubleClick :: is) b =
      runOps is ((b.setBs b.bs.clearFlags).answer (.bit b.bs.doubleClick)) := by
  rw [runOps_cons_of_next (exec_readPressed _), runOps_cons_of_next (exec_readReleased _),
    runOps_cons_of_next (exec_readHeld _), runOps_cons_of_next (exec_readDoubleClick _)]
  rfl

/-- Phases 4 to 6 as port calls. -/
theorem runOps_outputPhases (now : Time) (b : State) :
    ∃ u e es, runOps [.readPressed, .readReleased, .readHeld, .readDoubleClick,
        .outputTick b.bs.held b.bs.doubleClick now] b = .next u ∧
      exec .applyPins u = .next e ∧ e.out = .events es ∧ SameBlock (b.afterOutputPhases now) e ∧
      (b.afterOutputPhases now).out = .tick es b.bs.pressed b.bs.released b.bs.held b.bs.doubleClick := by
  rw [runOps_flagReads, runOps_cons_of_next (exec_outputTick _ _ _ _)]
  exact ⟨_, _, _, rfl, exec_applyPins _, rfl, ⟨rfl, rfl, rfl, rfl⟩, rfl⟩

/-- Phases 4 to 6 read the block and the configuration only. -/
theorem afterOutputPhases_congr {a b : State} (now : Time) (hblock : SameBlock a b) (hcfg : a.cfg = b.cfg) :
    SameBlock (a.afterOutputPhases now) (b.afterOutputPhases now) ∧
      (a.afterOutputPhases now).out = (b.afterOutputPhases now).out := by
  obtain ⟨hvs, hbs, hos, hpin⟩ := hblock
  simp [State.afterOutputPhases, SameBlock, hvs, hbs, hos, hpin, hcfg]

theorem SameBlock.trans {a b c : State} (hab : SameBlock a b) (hbc : SameBlock b c) : SameBlock a c := by
  obtain ⟨hvs, hbs, hos, hpin⟩ := hab
  obtain ⟨hvs', hbs', hos', hpin'⟩ := hbc
  exact ⟨hvs.trans hvs', hbs.trans hbs', hos.trans hos', hpin.trans hpin'⟩

/-- Settles O50: the port calls of phases 1 to 3 leave the block that the tick's own phases 1 to 3 leave, and
those of phases 4 to 6 then do to it what the tick does. -/
theorem tickIsItsPhases : Obligations.TickIsItsPhases := by
  intro now frames rawSample s hbatch
  obtain ⟨b, hb, hinput⟩ := runOps_inputPhases now rawSample hbatch
  obtain ⟨u, e, es, hu, he, hevents, houtput, hout⟩ := runOps_outputPhases now b
  have hcfg : (s.afterInputPhases now frames rawSample).cfg = b.cfg := (runOps_keeps_cfg hb).symm
  obtain ⟨hblock, hresponse⟩ := afterOutputPhases_congr now hinput hcfg
  exact ⟨b, u, e, _, es, hb, hu, he, hevents, exec_tick now frames rawSample s, hblock.trans houtput,
    hresponse.trans hout⟩

/-! ### The edge flags (R139) -/

/-- Settles O51: the tick's phase 4 is `clearFlags` on what BUTTON_TICK left, and its response holds the four
levels from before. -/
theorem tickReadsAndClearsTheFlags : Obligations.TickReadsAndClearsTheFlags := by
  intro now frames rawSample s
  exact ⟨s.bs.tick s.cfg rawSample now, _, _, exec_buttonTick rawSample now s,
    exec_tick now frames rawSample s, ButtonState.clearFlags_eq _, rfl⟩

end Sys2Proof.Machine
end

section
/-! PROOFS. No operation faults (60_exceptions.md R143), and none writes the configuration (R3), the stimuli
still to come or the count of free inputs (log entries 1, 3, 4). -/

namespace Sys2Proof.Machine

/-- What an operation can write at all: the block's four records and the response (log entry 6); the
model's other fields stay. -/
theorem exec_next_eq {i : Instr} {s t : State} (h : exec i s = .next t) :
    t = ((((s.setVs t.vs).setBs t.bs).setOs t.os).setPin t.pin).answer t.out := by
  cases i <;> cases h <;> rfl

theorem exec_keeps_stream {i : Instr} {s t : State} (h : exec i s = .next t) : t.stream = s.stream := by
  rw [exec_next_eq h]
  simp

theorem exec_keeps_inputIndex {i : Instr} {s t : State} (h : exec i s = .next t) :
    t.inputIndex = s.inputIndex := by
  rw [exec_next_eq h]
  simp

/-- Settles O10: every operation has an arm that answers, and what it answers keeps the three fields. -/
theorem everyOperationCompletesUnderTheSameConfiguration :
    Obligations.EveryOperationCompletesUnderTheSameConfiguration := by
  intro i s
  obtain ⟨t, ht⟩ := exec_eq_next i s
  exact ⟨t, ht, exec_keeps_cfg ht, exec_keeps_stream ht, exec_keeps_inputIndex ht⟩

end Sys2Proof.Machine
end

section
/-! PROOFS. The reset state under empty input (70_reset_and_hazards.md R166), and that nothing depends on the
timer value at reset (R165; log entry 15). -/

namespace Sys2Proof.Machine

/-! ### Empty input at reset (R166) -/

/-- Four unseen signals are four stale ones, whatever the time. -/
theorem ready_reset (c : Config) (now : Time) : ready c now VehicleState.reset = false :=
  rfl

theorem VehicleState.receive_reset_nil (c : Config) (now : Time) :
    VehicleState.reset.receive c now [] = VehicleState.reset := by
  simp only [VehicleState.receive, batch, List.take_nil, VehicleState.applyFrames, List.foldl_nil,
    VehicleState.recomputeReadiness, ready_reset]
  rfl

/-- A locked vehicle's override update clears, and there is nothing to clear. -/
theorem VehicleState.updateOverride_reset (dc : Bool) :
    VehicleState.reset.updateOverride dc = VehicleState.reset :=
  VehicleState.updateOverride_of_locked rfl dc

/-- With the button up the raw and the debounced level agree, so neither an edge nor hold tracking
happens. -/
theorem ButtonState.tick_reset_up (c : Config) (now : Time) :
    ButtonState.reset.tick c false now = ButtonState.reset := by
  have hnoedge : ¬ debounceDone c now (ButtonState.reset.sample false now) = true := fun h =>
    ((debounceDone_sample_iff c ButtonState.reset false now).1 h).1 rfl
  rw [ButtonState.tick_eq, if_neg hnoedge]
  rfl

/-- The reset vehicle is not ready, so the light target is 0 and the gate of the latch is shut. -/
theorem OutputState.drive_reset (c : Config) (now : Time) :
    OutputState.reset.drive c false now VehicleState.reset = OutputState.reset := by
  rw [OutputState.drive_eq]
  rfl

theorem afterInputPhases_of_reset {s : State} (hvs : s.vs = VehicleState.reset)
    (hbs : s.bs = ButtonState.reset) (now : Time) : s.afterInputPhases now [] false = s := by
  unfold State.afterInputPhases
  rw [hvs, hbs, VehicleState.receive_reset_nil, ButtonState.tick_reset_up, ← hvs, ← hbs]
  rfl

/-- At reset the output levels are those of the tick before, so no level-set call is made. -/
theorem afterOutputPhases_of_reset {s : State} (hvs : s.vs = VehicleState.reset)
    (hbs : s.bs = ButtonState.reset) (hos : s.os = OutputState.reset) (hpin : s.pin = PinState.reset)
    (now : Time) :
    s.afterOutputPhases now = { s with out := .tick [] false false false false } := by
  have hheld : ButtonState.reset.held = false := rfl
  simp only [State.afterOutputPhases, hvs, hbs, hos, hpin, VehicleState.updateOverride_reset, hheld,
    OutputState.drive_reset]
  rfl

/-- Settles O59: phases 1 to 3 leave the reset block as it is, and phases 4 to 6 write the response only. -/
theorem resetStateIsFixedUnderEmptyInput : Obligations.ResetStateIsFixedUnderEmptyInput := by
  intro now s hvs hbs hos hpin
  rw [exec_tick, afterInputPhases_of_reset hvs hbs, afterOutputPhases_of_reset hvs hbs hos hpin]

/-! ### Shifted signal slots (R165) -/

/-- A record that arrives writes the timestamp. -/
theorem shiftedSlot_store {k : Time} {a b : Slot} (h : ShiftedSlot k a b) (value : Byte) (now : Time) :
    ShiftedSlot k (a.store value now) (b.store value (now + k)) := by
  obtain ⟨hcur, -⟩ := h
  exact ⟨rfl, hcur, rfl, fun _ => rfl, nofun⟩

/-- Only a seen slot's age counts, and its timestamp is written. -/
theorem stale_eq_of_shifted {k : Time} {a b : Slot} (h : ShiftedSlot k a b) (c : Config) (now : Time) :
    stale c (now + k) b = stale c now a := by
  obtain ⟨-, -, hseen, hts, -⟩ := h
  unfold stale
  rw [hseen]
  cases hs : a.seen with
  | false => rfl
  | true => rw [hts hs, elapsed_add_right]

/-! ### Shifted vehicle records -/

/-- Shifted vehicle records differ in their slots at most. -/
theorem shiftedVehicle_iff {k : Time} {a b : VehicleState} :
    ShiftedVehicle k a b ↔ ∃ lamp lock park soc,
      (ShiftedSlot k a.lamp lamp ∧ ShiftedSlot k a.lock lock ∧ ShiftedSlot k a.park park ∧
        ShiftedSlot k a.soc soc) ∧
      b = { a with lamp := lamp, lock := lock, park := park, soc := soc } := by
  constructor
  · intro h
    obtain ⟨hlamp, hlock, hpark, hsoc, hunlocked, hparked, hrequest, hready, hoverride, hlevel⟩ := h
    refine ⟨b.lamp, b.lock, b.park, b.soc, ⟨hlamp, hlock, hpark, hsoc⟩, ?_⟩
    rw [← hunlocked, ← hparked, ← hrequest, ← hready, ← hoverride, ← hlevel]
  · rintro ⟨lamp, lock, park, soc, ⟨hlamp, hlock, hpark, hsoc⟩, rfl⟩
    exact ⟨hlamp, hlock, hpark, hsoc, rfl, rfl, rfl, rfl, rfl, rfl⟩

section Vehicle

variable {k : Time} {v w : VehicleState} (h : ShiftedVehicle k v w) (now : Time)
include h

theorem shiftedVehicle_applyLamp (r : LampRecord) :
    ShiftedVehicle k (v.applyLamp r now) (w.applyLamp r (now + k)) := by
  obtain ⟨lamp, lock, park, soc, ⟨hlamp, hlock, hpark, hsoc⟩, rfl⟩ := shiftedVehicle_iff.1 h
  rw [VehicleState.applyLamp_eq, VehicleState.applyLamp_eq]
  cases r.valid with
  | false => exact h
  | true =>
    exact shiftedVehicle_iff.2
      ⟨_, _, _, _, ⟨shiftedSlot_store hlamp r.value now, hlock, hpark, hsoc⟩, rfl⟩

theorem shiftedVehicle_applyLock (r : LockRecord) :
    ShiftedVehicle k (v.applyLock r now) (w.applyLock r (now + k)) := by
  obtain ⟨lamp, lock, park, soc, ⟨hlamp, hlock, hpark, hsoc⟩, rfl⟩ := shiftedVehicle_iff.1 h
  rw [VehicleState.applyLock_eq, VehicleState.applyLock_eq]
  cases r.valid with
  | false => exact h
  | true =>
    exact shiftedVehicle_iff.2
      ⟨_, _, _, _, ⟨hlamp, shiftedSlot_store hlock r.value now, hpark, hsoc⟩, rfl⟩

theorem shiftedVehicle_applyPark (r : ParkRecord) :
    ShiftedVehicle k (v.applyPark r now) (w.applyPark r (now + k)) := by
  obtain ⟨lamp, lock, park, soc, ⟨hlamp, hlock, hpark, hsoc⟩, rfl⟩ := shiftedVehicle_iff.1 h
  rw [VehicleState.applyPark_eq, VehicleState.applyPark_eq]
  cases r.valid with
  | false => exact h
  | true =>
    exact shiftedVehicle_iff.2
      ⟨_, _, _, _, ⟨hlamp, hlock, shiftedSlot_store hpark r.value now, hsoc⟩, rfl⟩

theorem shiftedVehicle_applySoc (r : SocRecord) :
    ShiftedVehicle k (v.applySoc r now) (w.applySoc r (now + k)) := by
  obtain ⟨lamp, lock, park, soc, ⟨hlamp, hlock, hpark, hsoc⟩, rfl⟩ := shiftedVehicle_iff.1 h
  rw [VehicleState.applySoc_eq, VehicleState.applySoc_eq]
  cases r.valid with
  | false => exact h
  | true =>
    exact shiftedVehicle_iff.2
      ⟨_, _, _, _, ⟨hlamp, hlock, hpark, shiftedSlot_store hsoc r.value now⟩, rfl⟩

theorem shiftedVehicle_applyDecoded (d : Decoded) :
    ShiftedVehicle k (v.applyDecoded d now) (w.applyDecoded d (now + k)) := by
  cases d with
  | lamp r => exact shiftedVehicle_applyLamp h now r
  | lock r => exact shiftedVehicle_applyLock h now r
  | park r => exact shiftedVehicle_applyPark h now r
  | soc r => exact shiftedVehicle_applySoc h now r
  | none => exact h

/-- Phase 1: the decoders read no time, so both runs apply the same records. -/
theorem shiftedVehicle_applyFrames (frames : List Frame) :
    ShiftedVehicle k (v.applyFrames frames now) (w.applyFrames frames (now + k)) := by
  induction frames generalizing v w with
  | nil => exact h
  | cons f fs ih => exact ih (shiftedVehicle_applyDecoded h now (dispatchFrame f))

theorem ready_eq_of_shifted (c : Config) : ready c (now + k) w = ready c now v := by
  obtain ⟨hlamp, hlock, hpark, hsoc, -⟩ := h
  simp only [ready, stale_eq_of_shifted hlamp, stale_eq_of_shifted hlock, stale_eq_of_shifted hpark,
    stale_eq_of_shifted hsoc]

theorem shiftedVehicle_recomputeReadiness (c : Config) :
    ShiftedVehicle k (v.recomputeReadiness c now) (w.recomputeReadiness c (now + k)) := by
  have hready := ready_eq_of_shifted h now c
  obtain ⟨lamp, lock, park, soc, hslots, rfl⟩ := shiftedVehicle_iff.1 h
  unfold VehicleState.recomputeReadiness
  rw [hready]
  exact shiftedVehicle_iff.2 ⟨_, _, _, _, hslots, rfl⟩

theorem shiftedVehicle_receive (c : Config) (frames : List Frame) :
    ShiftedVehicle k (v.receive c now frames) (w.receive c (now + k) frames) :=
  shiftedVehicle_recomputeReadiness (shiftedVehicle_applyFrames h now (batch c frames)) now c

omit now in
/-- The override update reads no slot. -/
theorem shiftedVehicle_updateOverride (dc : Bool) :
    ShiftedVehicle k (v.updateOverride dc) (w.updateOverride dc) := by
  obtain ⟨lamp, lock, park, soc, hslots, rfl⟩ := shiftedVehicle_iff.1 h
  rw [VehicleState.updateOverride_eq, VehicleState.updateOverride_eq]
  exact shiftedVehicle_iff.2 ⟨_, _, _, _, hslots, rfl⟩

omit now in
theorem lightTarget_eq_of_shifted : lightTarget w = lightTarget v := by
  obtain ⟨lamp, lock, park, soc, -, rfl⟩ := shiftedVehicle_iff.1 h
  rfl

omit now in
theorem latchGate_eq_of_shifted : latchGate w = latchGate v := by
  obtain ⟨lamp, lock, park, soc, -, rfl⟩ := shiftedVehicle_iff.1 h
  rfl

end Vehicle

/-! ### Shifted button records -/

/-- Shifted button records differ in their three timestamps at most. -/
theorem shiftedButton_iff {k : Time} {a b : ButtonState} :
    ShiftedButton k a b ↔ ∃ lastChange lastPress prevPress,
      ((lastChange = a.lastChange + k ∨ a.raw = a.deb ∧ a.lastChange = 0 ∧ lastChange = 0) ∧
        (a.hasPress = true → lastPress = a.lastPress + k) ∧
        (a.hasPress = false → a.deb = false ∧ a.lastPress = 0 ∧ lastPress = 0) ∧
        (prevPress = a.prevPress + k ∨ a.prevPress = 0 ∧ prevPress = 0)) ∧
      b = { a with lastChange := lastChange, lastPress := lastPress, prevPress := prevPress } := by
  constructor
  · intro h
    obtain ⟨hraw, hdeb, hprevDeb, hpressed, hreleased, hheld, hdouble, hreported, hcount, hhas,
      hduration, htimes⟩ := h
    refine ⟨b.lastChange, b.lastPress, b.prevPress, htimes, ?_⟩
    rw [← hraw, ← hdeb, ← hprevDeb, ← hpressed, ← hreleased, ← hheld, ← hdouble, ← hreported, ← hcount,
      ← hhas, ← hduration]
  · rintro ⟨lastChange, lastPress, prevPress, htimes, rfl⟩
    exact ⟨rfl, rfl, rfl, rfl, rfl, rfl, rfl, rfl, rfl, rfl, rfl, htimes⟩

section Button

variable {k : Time} {a b : ButtonState} (h : ShiftedButton k a b) (c : Config) (now : Time)
include h

omit c in
/-- A sample that differs from the raw level writes `lastChange`; one that does not leaves an unwritten
`lastChange` with the raw level still at the debounced one. -/
theorem shiftedButton_sample (rawSample : Bool) :
    ShiftedButton k (a.sample rawSample now) (b.sample rawSample (now + k)) := by
  obtain ⟨lastChange, lastPress, prevPress, ⟨hchange, hpresses⟩, rfl⟩ := shiftedButton_iff.1 h
  rw [ButtonState.sample_eq, ButtonState.sample_eq]
  refine shiftedButton_iff.2 ⟨_, _, _, ⟨?_, hpresses⟩, rfl⟩
  by_cases hraw : rawSample = a.raw
  · simpa only [hraw, if_true] using hchange
  · simp only [hraw, if_false, true_or]

omit c now in
/-- While a raw change waits for acceptance, `lastChange` is written. -/
theorem lastChange_eq_of_shifted (hwaiting : a.raw ≠ a.deb) : b.lastChange = a.lastChange + k := by
  obtain ⟨lastChange, lastPress, prevPress, ⟨hchange, -⟩, rfl⟩ := shiftedButton_iff.1 h
  exact hchange.resolve_right fun hunwritten => hwaiting hunwritten.1

theorem debounceDone_eq_of_shifted : debounceDone c (now + k) b = debounceDone c now a := by
  unfold debounceDone
  have ⟨hraw, hdeb, _⟩ := h
  rw [hraw, hdeb]
  by_cases hwaiting : a.raw = a.deb
  · simp [hwaiting]
  · rw [lastChange_eq_of_shifted h hwaiting, elapsed_add_right]

omit c in
/-- Once there was a press, its age is the same in both runs. -/
theorem elapsed_lastPress_eq_of_shifted (hhas : a.hasPress = true) :
    elapsed (now + k) b.lastPress = elapsed now a.lastPress := by
  obtain ⟨lastChange, lastPress, prevPress, ⟨-, hpress, -⟩, rfl⟩ := shiftedButton_iff.1 h
  rw [hpress hhas, elapsed_add_right]

theorem doubleClickNow_eq_of_shifted : doubleClickNow c (now + k) b = doubleClickNow c now a := by
  obtain ⟨lastChange, lastPress, prevPress, -, rfl⟩ := shiftedButton_iff.1 h
  unfold doubleClickNow
  cases hhas : a.hasPress with
  | false => rfl
  | true => rw [elapsed_lastPress_eq_of_shifted h now hhas]

/-- The press edge writes `lastPress` and moves the old one, written or still 0, to `prevPress`
(log entry 15). -/
theorem shiftedButton_pressEdge (hwaiting : a.raw ≠ a.deb) :
    ShiftedButton k (a.pressEdge c now) (b.pressEdge c (now + k)) := by
  have hchange := lastChange_eq_of_shifted h hwaiting
  have hdouble := doubleClickNow_eq_of_shifted h c now
  obtain ⟨lastChange, lastPress, prevPress, ⟨-, hpress, hnopress, -⟩, rfl⟩ := shiftedButton_iff.1 h
  unfold ButtonState.pressEdge
  rw [hdouble]
  refine shiftedButton_iff.2 ⟨_, _, _, ⟨.inl hchange, fun _ => rfl, nofun, ?_⟩, rfl⟩
  cases hhas : a.hasPress with
  | true => exact .inl (hpress hhas)
  | false =>
    obtain ⟨-, hlastPress⟩ := hnopress hhas
    exact .inr hlastPress

omit c now in
theorem shiftedButton_releaseEdge (hwaiting : a.raw ≠ a.deb) :
    ShiftedButton k a.releaseEdge b.releaseEdge := by
  have hchange := lastChange_eq_of_shifted h hwaiting
  obtain ⟨lastChange, lastPress, prevPress, ⟨-, hpress, hnopress, hprev⟩, rfl⟩ := shiftedButton_iff.1 h
  exact shiftedButton_iff.2
    ⟨_, _, _, ⟨.inl hchange, hpress, fun hhas => ⟨rfl, (hnopress hhas).2⟩, hprev⟩, rfl⟩

theorem shiftedButton_debounce : ShiftedButton k (a.debounce c now) (b.debounce c (now + k)) := by
  have ⟨hraw, _⟩ := h
  unfold ButtonState.debounce
  rw [debounceDone_eq_of_shifted h c now, hraw]
  by_cases hdone : debounceDone c now a = true
  · have hwaiting : a.raw ≠ a.deb := by
      unfold debounceDone at hdone
      exact bne_iff_ne.1 (Bool.and_eq_true_iff.1 hdone).1
    rw [if_pos hdone, if_pos hdone]
    split
    · exact shiftedButton_pressEdge h c now hwaiting
    · exact shiftedButton_releaseEdge h hwaiting
  · rw [if_neg hdone, if_neg hdone]
    exact h

omit c now in
/-- A debounced level of 1 comes from a press. -/
theorem hasPress_of_shifted_deb (hdeb : a.deb = true) : a.hasPress = true := by
  obtain ⟨lastChange, lastPress, prevPress, ⟨-, -, hnopress, -⟩, -⟩ := shiftedButton_iff.1 h
  by_contra hno
  obtain ⟨hup, -⟩ := hnopress (Bool.eq_false_of_not_eq_true hno)
  exact Bool.false_ne_true (hup.symm.trans hdeb)

/-- Hold tracking reads `lastPress` only while the button is pressed, and so only a written one. -/
theorem shiftedButton_trackHold : ShiftedButton k (a.trackHold c now) (b.trackHold c (now + k)) := by
  have ⟨_, hdeb, _⟩ := h
  unfold ButtonState.trackHold holdNow
  rw [hdeb]
  by_cases hdown : a.deb = true
  · rw [if_pos hdown, if_pos hdown,
      elapsed_lastPress_eq_of_shifted h now (hasPress_of_shifted_deb h hdown)]
    obtain ⟨lastChange, lastPress, prevPress, htimes, rfl⟩ := shiftedButton_iff.1 h
    exact shiftedButton_iff.2 ⟨_, _, _, htimes, rfl⟩
  · rw [if_neg hdown, if_neg hdown]
    exact h

theorem shiftedButton_tick (rawSample : Bool) :
    ShiftedButton k (a.tick c rawSample now) (b.tick c rawSample (now + k)) :=
  shiftedButton_trackHold (shiftedButton_debounce (shiftedButton_sample h now rawSample) c now) c now

omit c now in
theorem shiftedButton_clearFlags : ShiftedButton k a.clearFlags b.clearFlags := by
  obtain ⟨lastChange, lastPress, prevPress, htimes, rfl⟩ := shiftedButton_iff.1 h
  exact shiftedButton_iff.2 ⟨_, _, _, htimes, rfl⟩

end Button

/-! ### Shifted output records -/

/-- Shifted output records differ in the start of the pulse at most. -/
theorem shiftedOutput_iff {k : Time} {o p : OutputState} :
    ShiftedOutput k o p ↔ ∃ latchStart,
      (latchStart = o.latchStart + k ∨ o.latch = false ∧ o.latchStart = 0 ∧ latchStart = 0) ∧
      p = { o with latchStart := latchStart } := by
  constructor
  · intro h
    obtain ⟨hlight, hlatch, hprevLight, hprevLatch, hstart⟩ := h
    refine ⟨p.latchStart, hstart, ?_⟩
    rw [← hlight, ← hlatch, ← hprevLight, ← hprevLatch]
  · rintro ⟨latchStart, hstart, rfl⟩
    exact ⟨rfl, rfl, rfl, rfl, hstart⟩

section Output

variable {k : Time} {o p : OutputState} (h : ShiftedOutput k o p)
include h

/-- During a pulse its start is written, so its age is the same in both runs. -/
theorem pulseDone_eq_of_shifted (c : Config) (now : Time) (hlatch : o.latch = true) :
    pulseDone c (now + k) p = pulseDone c now o := by
  obtain ⟨latchStart, hstart, rfl⟩ := shiftedOutput_iff.1 h
  have hwritten : latchStart = o.latchStart + k := by simpa [hlatch] using hstart
  unfold pulseDone
  rw [hwritten, elapsed_add_right]

/-- The timeout is tested during a pulse only; a trigger writes the start, and without one a start not yet
written goes with a latch that stays at 0. -/
theorem shiftedOutput_drive {v w : VehicleState} (hv : ShiftedVehicle k v w) (c : Config) (hold : Bool)
    (now : Time) : ShiftedOutput k (o.drive c hold now v) (p.drive c hold (now + k) w) := by
  have ⟨_, hlatch, _⟩ := h
  have hlevel : (if o.latch then !pulseDone c (now + k) p else hold && latchGate v) =
      if o.latch then !pulseDone c now o else hold && latchGate v := by
    split
    · next hpulse => rw [pulseDone_eq_of_shifted h c now hpulse]
    · rfl
  rw [OutputState.drive_eq, OutputState.drive_eq, lightTarget_eq_of_shifted hv,
    latchGate_eq_of_shifted hv, hlatch, hlevel]
  obtain ⟨latchStart, hstart, rfl⟩ := shiftedOutput_iff.1 h
  refine shiftedOutput_iff.2 ⟨_, ?_, rfl⟩
  by_cases hfire : (hold && latchGate v && !o.latch) = true
  · simp only [hfire, if_true, true_or]
  · simp only [if_neg hfire]
    refine hstart.imp_right ?_
    rintro ⟨hidle, hunwritten⟩
    exact ⟨by simpa [hidle] using hfire, hunwritten⟩

theorem shiftedOutput_copyLevels : ShiftedOutput k o.copyLevels p.copyLevels := by
  obtain ⟨latchStart, hstart, rfl⟩ := shiftedOutput_iff.1 h
  exact shiftedOutput_iff.2 ⟨_, hstart, rfl⟩

/-- The level-set calls read the levels only. -/
theorem events_eq_of_shifted : p.events = o.events := by
  obtain ⟨latchStart, -, rfl⟩ := shiftedOutput_iff.1 h
  rfl

theorem follow_eq_of_shifted (pin : PinState) : pin.follow p = pin.follow o := by
  obtain ⟨latchStart, -, rfl⟩ := shiftedOutput_iff.1 h
  rfl

end Output

/-! ### A tick of two shifted runs (R165) -/

/-- Before anything is written the shift shows nowhere. -/
theorem shiftedBy_reset (k : Time) : ShiftedBy k State.reset State.reset := by
  simp [ShiftedBy, State.reset, VehicleState.reset, ButtonState.reset, OutputState.reset, Slot.empty]

theorem shiftedBy_afterInputPhases {k : Time} {s t : State} (h : ShiftedBy k s t) (now : Time)
    (frames : List Frame) (rawSample : Bool) :
    ShiftedBy k (s.afterInputPhases now frames rawSample)
      (t.afterInputPhases (now + k) frames rawSample) := by
  obtain ⟨hvs, hbs, hos, hpin, hcfg⟩ := h
  unfold State.afterInputPhases
  rw [hcfg]
  exact ⟨shiftedVehicle_receive hvs now s.cfg frames, shiftedButton_tick hbs s.cfg now rawSample, hos, hpin,
    hcfg⟩

theorem shiftedBy_afterOutputPhases {k : Time} {s t : State} (h : ShiftedBy k s t) (now : Time) :
    ShiftedBy k (s.afterOutputPhases now) (t.afterOutputPhases (now + k)) ∧
      (s.afterOutputPhases now).out = (t.afterOutputPhases (now + k)).out := by
  obtain ⟨hvs, hbs, hos, hpin, hcfg⟩ := h
  have ⟨_, _, _, hpressed, hreleased, hheld, hdouble, _⟩ := hbs
  have hvs' := shiftedVehicle_updateOverride hvs s.bs.doubleClick
  have hos' := shiftedOutput_drive hos hvs' s.cfg s.bs.held now
  unfold State.afterOutputPhases
  simp only [hpressed, hreleased, hheld, hdouble, hpin, hcfg, events_eq_of_shifted hos',
    follow_eq_of_shifted hos']
  exact ⟨⟨hvs', shiftedButton_clearFlags hbs, shiftedOutput_copyLevels hos', rfl, hcfg⟩, rfl⟩

/-- Settles O60: the phases of the tick keep the relation one after the other, because every timestamp that a
rule reads has been written (guards `seen`, `hasPress`, `latch` of R165), and ages do not see the shift. -/
theorem tickIsIndependentOfTheTimerOrigin : Obligations.TickIsIndependentOfTheTimerOrigin := by
  refine ⟨shiftedBy_reset, ?_⟩
  intro k now frames rawSample s t h
  obtain ⟨hblock, hout⟩ :=
    shiftedBy_afterOutputPhases (shiftedBy_afterInputPhases h now frames rawSample) now
  exact ⟨_, _, exec_tick now frames rawSample s, exec_tick (now + k) frames rawSample t, hblock, hout⟩

end Sys2Proof.Machine
end
